-- ==== Sys2Proof/Word.lean ====
section
/-! DEFINITION. The two word widths of the machine (00_scope R9): bytes of 8 bits and words of 16 bits, and text. -/

namespace Sys2Proof

/-- A byte: 8 bits, bit 0 the least significant (R9). -/
abbrev Byte := BitVec 8

/-- A word: 16 bits (R9). -/
abbrev Word := BitVec 16

/-- The text of a message, of a message pattern and of a disassembled instruction. -/
abbrev Text := String

end Sys2Proof
end

