-- ==== Sys2Proof/Syntax/Operand.lean ====
section
/-! DEFINITION. The operand names an instruction can carry (30_encoding R113 to R117): registers, pairs, halves, conditions. -/

namespace Sys2Proof

/-- The seven 8-bit registers an instruction can name (R113; code 6 is the memory byte at HL and has its own rows). -/
inductive Reg8 where
  | b | c | d | e | h | l | a
  deriving DecidableEq, Repr

/-- The 8-bit operands of a DD/FD form that has no `(XY+d)` operand (R124, R130): codes 4 and 5 are the halves of XY. -/
inductive RegX where
  | b | c | d | e | xh | xl | a
  deriving DecidableEq, Repr

/-- One half of an index register: XYh (code 4) or XYl (code 5) (R124). -/
inductive Half where
  | hi | lo
  deriving DecidableEq, Repr

/-- Which index register a prefix selects: DD selects IX, FD selects IY (R25, R121). -/
inductive Idx where
  | ix | iy
  deriving DecidableEq, Repr

/-- The pair table rp, called dd or ss (R114). -/
inductive Pair where
  | bc | de | hl | sp
  deriving DecidableEq, Repr

/-- The pair table rp2, called qq, of PUSH and POP (R114). -/
inductive PairQ where
  | bc | de | hl | af
  deriving DecidableEq, Repr

/-- The pair table pp of ADD XY,pp: code 2 is the prefix's own register (R114, R271). -/
inductive PairX where
  | bc | de | xy | sp
  deriving DecidableEq, Repr

/-- The condition codes (R116). -/
inductive Cond where
  | nz | z | nc | c | po | pe | p | m
  deriving DecidableEq, Repr

/-- The eight accumulator operations, in the order of their codes (R115). -/
inductive AluOp where
  | add | adc | sub | sbc | and | xor | or | cp
  deriving DecidableEq, Repr

/-- The eight rotate and shift operations, in the order of their codes (R117). -/
inductive RotOp where
  | rlc | rrc | rl | rr | sla | sra | sll | srl
  deriving DecidableEq, Repr

end Sys2Proof
end

