-- ==== Sys2Proof/Syntax.lean ====
section
/-! DEFINITION. The instructions: one constructor for each row of spec/opcode_table.json.
Arguments: `e` a jump displacement byte, `d` an index displacement byte, `n` an immediate byte, `nn` an immediate word (00_scope R13);
`y`, `z`, `y0` and the 6-bit `op` are the bits of the opcode byte that several encodings of one row differ in and that its rule does not
read (log entry 14). The prefix rows carry the bytes behind the prefix (log entry 15). -/

namespace Sys2Proof

/-- One constructor for each row of the opcode table; each docstring gives the row's form and the rule of its meaning.
First the rows with an operand, in the table's order, then the rows without one: Lean's runtime numbers at most 244 constructors that
carry data. -/
inductive Instr where
  /-- `DJNZ e` (R324). -/
  | djnz (e : Byte)
  /-- `JR e` (R322). -/
  | jr (e : Byte)
  /-- `JR cc,e` (R323). -/
  | jrCc (cc : Cond) (e : Byte)
  /-- `LD dd,nn` (R180). -/
  | ldDdNn (dd : Pair) (nn : Word)
  /-- `ADD HL,ss` (R270). -/
  | addHlSs (ss : Pair)
  /-- `LD (nn),HL` (R185). -/
  | ldAtNnHl (nn : Word)
  /-- `LD (nn),A` (R167). -/
  | ldAtNnA (nn : Word)
  /-- `LD HL,(nn)` (R182). -/
  | ldHlAtNn (nn : Word)
  /-- `LD A,(nn)` (R160). -/
  | ldAAtNn (nn : Word)
  /-- `INC ss` (R274). -/
  | incSs (ss : Pair)
  /-- `DEC ss` (R276). -/
  | decSs (ss : Pair)
  /-- `INC r` (R249). -/
  | incR (r : Reg8)
  /-- `DEC r` (R253). -/
  | decR (r : Reg8)
  /-- `LD r,n` (R151). -/
  | ldRN (r : Reg8) (n : Byte)
  /-- `LD (HL),n` (R154). -/
  | ldAtHlN (n : Byte)
  /-- `LD r,r'` (R150). -/
  | ldRR (r : Reg8) (r2 : Reg8)
  /-- `LD r,(HL)` (R152). -/
  | ldRAtHl (r : Reg8)
  /-- `LD (HL),r` (R153). -/
  | ldAtHlR (r : Reg8)
  /-- `ADD A,r` (R241). -/
  | addR (r : Reg8)
  /-- `ADD A,n` (R241). -/
  | addN (n : Byte)
  /-- `ADC A,r` (R242). -/
  | adcR (r : Reg8)
  /-- `ADC A,n` (R242). -/
  | adcN (n : Byte)
  /-- `SUB r` (R243). -/
  | subR (r : Reg8)
  /-- `SUB n` (R243). -/
  | subN (n : Byte)
  /-- `SBC A,r` (R244). -/
  | sbcR (r : Reg8)
  /-- `SBC A,n` (R244). -/
  | sbcN (n : Byte)
  /-- `AND r` (R245). -/
  | andR (r : Reg8)
  /-- `AND n` (R245). -/
  | andN (n : Byte)
  /-- `XOR r` (R246). -/
  | xorR (r : Reg8)
  /-- `XOR n` (R246). -/
  | xorN (n : Byte)
  /-- `OR r` (R247). -/
  | orR (r : Reg8)
  /-- `OR n` (R247). -/
  | orN (n : Byte)
  /-- `CP r` (R248). -/
  | cpR (r : Reg8)
  /-- `CP n` (R248). -/
  | cpN (n : Byte)
  /-- `RET cc` (R330). -/
  | retCc (cc : Cond)
  /-- `POP qq` (R192). -/
  | popQq (qq : PairQ)
  /-- `JP cc,nn` (R321). -/
  | jpCcNn (cc : Cond) (nn : Word)
  /-- `JP nn` (R320). -/
  | jpNn (nn : Word)
  /-- `OUT (n),A` (R355). -/
  | outNA (n : Byte)
  /-- `IN A,(n)` (R352). -/
  | inAN (n : Byte)
  /-- `CALL cc,nn` (R328). -/
  | callCcNn (cc : Cond) (nn : Word)
  /-- `PUSH qq` (R190). -/
  | pushQq (qq : PairQ)
  /-- `CALL nn` (R327). -/
  | callNn (nn : Word)
  /-- `RST p` (R333). -/
  | rst (p : BitVec 3)
  /-- `(prefix CB)` (R119). -/
  | prefixCb (op : Byte)
  /-- `(prefix DD)` (R121). -/
  | prefixDd (b1 : Byte) (b2 : Byte) (b3 : Byte)
  /-- `(prefix ED)` (R120). -/
  | prefixEd (b1 : Byte) (b2 : Byte) (b3 : Byte)
  /-- `(prefix FD)` (R121). -/
  | prefixFd (b1 : Byte) (b2 : Byte) (b3 : Byte)
  /-- `RLC r` (R295). -/
  | rlcR (r : Reg8)
  /-- `RRC r` (R296). -/
  | rrcR (r : Reg8)
  /-- `RL r` (R297). -/
  | rlR (r : Reg8)
  /-- `RR r` (R298). -/
  | rrR (r : Reg8)
  /-- `SLA r` (R299). -/
  | slaR (r : Reg8)
  /-- `SRA r` (R300). -/
  | sraR (r : Reg8)
  /-- `SLL r` (R301). -/
  | sllR (r : Reg8)
  /-- `SRL r` (R302). -/
  | srlR (r : Reg8)
  /-- `BIT b,r` (R303). -/
  | bitR (b : BitVec 3) (r : Reg8)
  /-- `BIT b,(HL)` (R304). -/
  | bitAtHl (b : BitVec 3)
  /-- `RES b,r` (R307). -/
  | resR (b : BitVec 3) (r : Reg8)
  /-- `RES b,(HL)` (R307). -/
  | resAtHl (b : BitVec 3)
  /-- `SET b,r` (R306). -/
  | setR (b : BitVec 3) (r : Reg8)
  /-- `SET b,(HL)` (R306). -/
  | setAtHl (b : BitVec 3)
  /-- `IN r,(C)` (R353). -/
  | inR (r : Reg8)
  /-- `OUT (C),r` (R356). -/
  | outR (r : Reg8)
  /-- `SBC HL,ss` (R273). -/
  | sbcHlSs (ss : Pair)
  /-- `ADC HL,ss` (R272). -/
  | adcHlSs (ss : Pair)
  /-- `LD (nn),dd` (R187). -/
  | ldAtNnDd (nn : Word) (dd : Pair)
  /-- `LD dd,(nn)` (R184). -/
  | ldDdAtNn (dd : Pair) (nn : Word)
  /-- `NEG` (R259). -/
  | neg (y : BitVec 3)
  /-- `RETN` (R332). -/
  | retn (y : BitVec 3)
  /-- `IM 0` (R374). -/
  | im0 (y : BitVec 3)
  /-- `IM 1` (R375). -/
  | im1 (y : BitVec 3)
  /-- `IM 2` (R376). -/
  | im2 (y : BitVec 3)
  /-- `NOP* (undefined ED, x=0)` (R377). -/
  | nopEd0 (op : BitVec 6)
  /-- `NOP* (undefined ED, x=3)` (R377). -/
  | nopEd3 (op : BitVec 6)
  /-- `NOP* (undefined ED, 0x77/0x7F)` (R377). -/
  | nopEd7 (y0 : Bool)
  /-- `NOP* (undefined ED, x=2 non-block)` (R377). -/
  | nopEd2 (op : BitVec 6)
  /-- `LD IX,nn` (R181). -/
  | ldIxNn (nn : Word)
  /-- `LD (nn),IX` (R186). -/
  | ldAtNnIx (nn : Word)
  /-- `LD IX,(nn)` (R183). -/
  | ldIxAtNn (nn : Word)
  /-- `ADD IX,pp` (R271). -/
  | addIxPp (pp : PairX)
  /-- `INC IXH / INC IXL` (R252). -/
  | incIxHalf (x : Half)
  /-- `DEC IXH / DEC IXL` (R256). -/
  | decIxHalf (x : Half)
  /-- `LD IXH,n / LD IXL,n` (R169). -/
  | ldIxHalfN (x : Half) (n : Byte)
  /-- `INC (IX+d)` (R251). -/
  | incAtIx (d : Byte)
  /-- `DEC (IX+d)` (R255). -/
  | decAtIx (d : Byte)
  /-- `LD (IX+d),n` (R157). -/
  | ldAtIxN (d : Byte) (n : Byte)
  /-- `LD r,(IX+d)` (R155). -/
  | ldRAtIx (r : Reg8) (d : Byte)
  /-- `LD (IX+d),r` (R156). -/
  | ldAtIxR (d : Byte) (r : Reg8)
  /-- `LD r,r' (with IXH/IXL)` (R168). -/
  | ldRRIx (r : RegX) (r2 : RegX)
  /-- `ADD A,IXH / IXL` (R241). -/
  | addIxHalf (x : Half)
  /-- `ADD A,(IX+d)` (R241). -/
  | addAtIx (d : Byte)
  /-- `ADC A,IXH / IXL` (R242). -/
  | adcIxHalf (x : Half)
  /-- `ADC A,(IX+d)` (R242). -/
  | adcAtIx (d : Byte)
  /-- `SUB IXH / IXL` (R243). -/
  | subIxHalf (x : Half)
  /-- `SUB (IX+d)` (R243). -/
  | subAtIx (d : Byte)
  /-- `SBC A,IXH / IXL` (R244). -/
  | sbcIxHalf (x : Half)
  /-- `SBC A,(IX+d)` (R244). -/
  | sbcAtIx (d : Byte)
  /-- `AND IXH / IXL` (R245). -/
  | andIxHalf (x : Half)
  /-- `AND (IX+d)` (R245). -/
  | andAtIx (d : Byte)
  /-- `XOR IXH / IXL` (R246). -/
  | xorIxHalf (x : Half)
  /-- `XOR (IX+d)` (R246). -/
  | xorAtIx (d : Byte)
  /-- `OR IXH / IXL` (R247). -/
  | orIxHalf (x : Half)
  /-- `OR (IX+d)` (R247). -/
  | orAtIx (d : Byte)
  /-- `CP IXH / IXL` (R248). -/
  | cpIxHalf (x : Half)
  /-- `CP (IX+d)` (R248). -/
  | cpAtIx (d : Byte)
  /-- `(prefix DD CB: DDCB table)` (R127). -/
  | prefixDdCb (d : Byte) (op : Byte)
  /-- `(ignored DD prefix) + base instruction` (R379). -/
  | ignoredDd (base : Instr)
  /-- `RLC (IX+d)` (R295). -/
  | rlcAtIx (d : Byte)
  /-- `RLC (IX+d),r` (R295). -/
  | rlcAtIxR (d : Byte) (r : Reg8)
  /-- `RRC (IX+d)` (R296). -/
  | rrcAtIx (d : Byte)
  /-- `RRC (IX+d),r` (R296). -/
  | rrcAtIxR (d : Byte) (r : Reg8)
  /-- `RL (IX+d)` (R297). -/
  | rlAtIx (d : Byte)
  /-- `RL (IX+d),r` (R297). -/
  | rlAtIxR (d : Byte) (r : Reg8)
  /-- `RR (IX+d)` (R298). -/
  | rrAtIx (d : Byte)
  /-- `RR (IX+d),r` (R298). -/
  | rrAtIxR (d : Byte) (r : Reg8)
  /-- `SLA (IX+d)` (R299). -/
  | slaAtIx (d : Byte)
  /-- `SLA (IX+d),r` (R299). -/
  | slaAtIxR (d : Byte) (r : Reg8)
  /-- `SRA (IX+d)` (R300). -/
  | sraAtIx (d : Byte)
  /-- `SRA (IX+d),r` (R300). -/
  | sraAtIxR (d : Byte) (r : Reg8)
  /-- `SLL (IX+d)` (R301). -/
  | sllAtIx (d : Byte)
  /-- `SLL (IX+d),r` (R301). -/
  | sllAtIxR (d : Byte) (r : Reg8)
  /-- `SRL (IX+d)` (R302). -/
  | srlAtIx (d : Byte)
  /-- `SRL (IX+d),r` (R302). -/
  | srlAtIxR (d : Byte) (r : Reg8)
  /-- `BIT b,(IX+d)` (R305). -/
  | bitAtIx (b : BitVec 3) (d : Byte) (z : BitVec 3)
  /-- `RES b,(IX+d)` (R307). -/
  | resAtIx (b : BitVec 3) (d : Byte)
  /-- `RES b,(IX+d),r` (R307). -/
  | resAtIxR (b : BitVec 3) (d : Byte) (r : Reg8)
  /-- `SET b,(IX+d)` (R306). -/
  | setAtIx (b : BitVec 3) (d : Byte)
  /-- `SET b,(IX+d),r` (R306). -/
  | setAtIxR (b : BitVec 3) (d : Byte) (r : Reg8)
  /-- `LD IY,nn` (R181). -/
  | ldIyNn (nn : Word)
  /-- `LD (nn),IY` (R186). -/
  | ldAtNnIy (nn : Word)
  /-- `LD IY,(nn)` (R183). -/
  | ldIyAtNn (nn : Word)
  /-- `ADD IY,pp` (R271). -/
  | addIyPp (pp : PairX)
  /-- `INC IYH / INC IYL` (R252). -/
  | incIyHalf (x : Half)
  /-- `DEC IYH / DEC IYL` (R256). -/
  | decIyHalf (x : Half)
  /-- `LD IYH,n / LD IYL,n` (R169). -/
  | ldIyHalfN (x : Half) (n : Byte)
  /-- `INC (IY+d)` (R251). -/
  | incAtIy (d : Byte)
  /-- `DEC (IY+d)` (R255). -/
  | decAtIy (d : Byte)
  /-- `LD (IY+d),n` (R157). -/
  | ldAtIyN (d : Byte) (n : Byte)
  /-- `LD r,(IY+d)` (R155). -/
  | ldRAtIy (r : Reg8) (d : Byte)
  /-- `LD (IY+d),r` (R156). -/
  | ldAtIyR (d : Byte) (r : Reg8)
  /-- `LD r,r' (with IYH/IYL)` (R168). -/
  | ldRRIy (r : RegX) (r2 : RegX)
  /-- `ADD A,IYH / IYL` (R241). -/
  | addIyHalf (x : Half)
  /-- `ADD A,(IY+d)` (R241). -/
  | addAtIy (d : Byte)
  /-- `ADC A,IYH / IYL` (R242). -/
  | adcIyHalf (x : Half)
  /-- `ADC A,(IY+d)` (R242). -/
  | adcAtIy (d : Byte)
  /-- `SUB IYH / IYL` (R243). -/
  | subIyHalf (x : Half)
  /-- `SUB (IY+d)` (R243). -/
  | subAtIy (d : Byte)
  /-- `SBC A,IYH / IYL` (R244). -/
  | sbcIyHalf (x : Half)
  /-- `SBC A,(IY+d)` (R244). -/
  | sbcAtIy (d : Byte)
  /-- `AND IYH / IYL` (R245). -/
  | andIyHalf (x : Half)
  /-- `AND (IY+d)` (R245). -/
  | andAtIy (d : Byte)
  /-- `XOR IYH / IYL` (R246). -/
  | xorIyHalf (x : Half)
  /-- `XOR (IY+d)` (R246). -/
  | xorAtIy (d : Byte)
  /-- `OR IYH / IYL` (R247). -/
  | orIyHalf (x : Half)
  /-- `OR (IY+d)` (R247). -/
  | orAtIy (d : Byte)
  /-- `CP IYH / IYL` (R248). -/
  | cpIyHalf (x : Half)
  /-- `CP (IY+d)` (R248). -/
  | cpAtIy (d : Byte)
  /-- `(prefix FD CB: FDCB table)` (R127). -/
  | prefixFdCb (d : Byte) (op : Byte)
  /-- `(ignored FD prefix) + base instruction` (R379). -/
  | ignoredFd (base : Instr)
  /-- `RLC (IY+d)` (R295). -/
  | rlcAtIy (d : Byte)
  /-- `RLC (IY+d),r` (R295). -/
  | rlcAtIyR (d : Byte) (r : Reg8)
  /-- `RRC (IY+d)` (R296). -/
  | rrcAtIy (d : Byte)
  /-- `RRC (IY+d),r` (R296). -/
  | rrcAtIyR (d : Byte) (r : Reg8)
  /-- `RL (IY+d)` (R297). -/
  | rlAtIy (d : Byte)
  /-- `RL (IY+d),r` (R297). -/
  | rlAtIyR (d : Byte) (r : Reg8)
  /-- `RR (IY+d)` (R298). -/
  | rrAtIy (d : Byte)
  /-- `RR (IY+d),r` (R298). -/
  | rrAtIyR (d : Byte) (r : Reg8)
  /-- `SLA (IY+d)` (R299). -/
  | slaAtIy (d : Byte)
  /-- `SLA (IY+d),r` (R299). -/
  | slaAtIyR (d : Byte) (r : Reg8)
  /-- `SRA (IY+d)` (R300). -/
  | sraAtIy (d : Byte)
  /-- `SRA (IY+d),r` (R300). -/
  | sraAtIyR (d : Byte) (r : Reg8)
  /-- `SLL (IY+d)` (R301). -/
  | sllAtIy (d : Byte)
  /-- `SLL (IY+d),r` (R301). -/
  | sllAtIyR (d : Byte) (r : Reg8)
  /-- `SRL (IY+d)` (R302). -/
  | srlAtIy (d : Byte)
  /-- `SRL (IY+d),r` (R302). -/
  | srlAtIyR (d : Byte) (r : Reg8)
  /-- `BIT b,(IY+d)` (R305). -/
  | bitAtIy (b : BitVec 3) (d : Byte) (z : BitVec 3)
  /-- `RES b,(IY+d)` (R307). -/
  | resAtIy (b : BitVec 3) (d : Byte)
  /-- `RES b,(IY+d),r` (R307). -/
  | resAtIyR (b : BitVec 3) (d : Byte) (r : Reg8)
  /-- `SET b,(IY+d)` (R306). -/
  | setAtIy (b : BitVec 3) (d : Byte)
  /-- `SET b,(IY+d),r` (R306). -/
  | setAtIyR (b : BitVec 3) (d : Byte) (r : Reg8)
  /-- `NOP` (R370). -/
  | nop
  /-- `EX AF,AF'` (R195). -/
  | exAfAf
  /-- `LD (BC),A` (R165). -/
  | ldAtBcA
  /-- `LD (DE),A` (R166). -/
  | ldAtDeA
  /-- `LD A,(BC)` (R158). -/
  | ldAAtBc
  /-- `LD A,(DE)` (R159). -/
  | ldAAtDe
  /-- `INC (HL)` (R250). -/
  | incAtHl
  /-- `DEC (HL)` (R254). -/
  | decAtHl
  /-- `RLCA` (R290). -/
  | rlca
  /-- `RRCA` (R291). -/
  | rrca
  /-- `RLA` (R292). -/
  | rla
  /-- `RRA` (R293). -/
  | rra
  /-- `DAA` (R257). -/
  | daa
  /-- `CPL` (R258). -/
  | cpl
  /-- `SCF` (R263). -/
  | scf
  /-- `CCF` (R262). -/
  | ccf
  /-- `HALT` (R371). -/
  | halt
  /-- `ADD A,(HL)` (R241). -/
  | addAtHl
  /-- `ADC A,(HL)` (R242). -/
  | adcAtHl
  /-- `SUB (HL)` (R243). -/
  | subAtHl
  /-- `SBC A,(HL)` (R244). -/
  | sbcAtHl
  /-- `AND (HL)` (R245). -/
  | andAtHl
  /-- `XOR (HL)` (R246). -/
  | xorAtHl
  /-- `OR (HL)` (R247). -/
  | orAtHl
  /-- `CP (HL)` (R248). -/
  | cpAtHl
  /-- `RET` (R329). -/
  | ret
  /-- `EXX` (R196). -/
  | exx
  /-- `JP (HL)` (R325). -/
  | jpHl
  /-- `LD SP,HL` (R188). -/
  | ldSpHl
  /-- `EX (SP),HL` (R197). -/
  | exAtSpHl
  /-- `EX DE,HL` (R194). -/
  | exDeHl
  /-- `DI` (R372). -/
  | di
  /-- `EI` (R373). -/
  | ei
  /-- `RLC (HL)` (R295). -/
  | rlcAtHl
  /-- `RRC (HL)` (R296). -/
  | rrcAtHl
  /-- `RL (HL)` (R297). -/
  | rlAtHl
  /-- `RR (HL)` (R298). -/
  | rrAtHl
  /-- `SLA (HL)` (R299). -/
  | slaAtHl
  /-- `SRA (HL)` (R300). -/
  | sraAtHl
  /-- `SLL (HL)` (R301). -/
  | sllAtHl
  /-- `SRL (HL)` (R302). -/
  | srlAtHl
  /-- `IN (C)` (R354). -/
  | inFlags
  /-- `OUT (C),0` (R357). -/
  | outZero
  /-- `RETI` (R331). -/
  | reti
  /-- `LD I,A` (R163). -/
  | ldIA
  /-- `LD R,A` (R164). -/
  | ldRA
  /-- `LD A,I` (R161). -/
  | ldAI
  /-- `LD A,R` (R162). -/
  | ldAR
  /-- `RRD` (R309). -/
  | rrd
  /-- `RLD` (R308). -/
  | rld
  /-- `LDI` (R210). -/
  | ldi
  /-- `CPI` (R215). -/
  | cpi
  /-- `INI` (R220). -/
  | ini
  /-- `OUTI` (R224). -/
  | outi
  /-- `LDD` (R211). -/
  | ldd
  /-- `CPD` (R216). -/
  | cpd
  /-- `IND` (R221). -/
  | ind
  /-- `OUTD` (R225). -/
  | outd
  /-- `LDIR` (R212). -/
  | ldir
  /-- `CPIR` (R217). -/
  | cpir
  /-- `INIR` (R222). -/
  | inir
  /-- `OTIR` (R226). -/
  | otir
  /-- `LDDR` (R213). -/
  | lddr
  /-- `CPDR` (R218). -/
  | cpdr
  /-- `INDR` (R223). -/
  | indr
  /-- `OTDR` (R227). -/
  | otdr
  /-- `INC IX` (R275). -/
  | incIx
  /-- `DEC IX` (R277). -/
  | decIx
  /-- `POP IX` (R193). -/
  | popIx
  /-- `EX (SP),IX` (R198). -/
  | exAtSpIx
  /-- `PUSH IX` (R191). -/
  | pushIx
  /-- `JP (IX)` (R326). -/
  | jpIx
  /-- `LD SP,IX` (R189). -/
  | ldSpIx
  /-- `NOP* (lone DD prefix)` (R378). -/
  | loneDd
  /-- `INC IY` (R275). -/
  | incIy
  /-- `DEC IY` (R277). -/
  | decIy
  /-- `POP IY` (R193). -/
  | popIy
  /-- `EX (SP),IY` (R198). -/
  | exAtSpIy
  /-- `PUSH IY` (R191). -/
  | pushIy
  /-- `JP (IY)` (R326). -/
  | jpIy
  /-- `LD SP,IY` (R189). -/
  | ldSpIy
  /-- `NOP* (lone FD prefix)` (R378). -/
  | loneFd
  deriving DecidableEq, Repr

end Sys2Proof
end

