-- ==== Sys2Proof/WellFormed.lean ====
section
/-! DEFINITION. Which terms of Instr are instructions: exactly those the decoder can answer (30_encoding R118 to R127). -/

namespace Sys2Proof

/-- The registers H and L, which a DD/FD prefix replaces (30_encoding R124). -/
def Reg8.isHl : Reg8 → Bool
  | .h | .l => true
  | _ => false

/-- The operands XYh and XYl (R124). -/
def RegX.isHalf : RegX → Bool
  | .xh | .xl => true
  | _ => false

/-- Base-table instructions a DD/FD prefix does not affect: those that name none of H, L, HL and `(HL)`, and EX DE,HL and EXX
(30_encoding R121, R123, R125; 48_cpu_control R379). Every other row answers false. -/
def Instr.ignoresIndex : Instr → Bool
  | .nop => true
  | .exAfAf => true
  | .djnz _ => true
  | .jr _ => true
  | .jrCc _ _ => true
  | .ldDdNn dd _ => dd != .hl
  | .ldAtBcA => true
  | .ldAtDeA => true
  | .ldAtNnA _ => true
  | .ldAAtBc => true
  | .ldAAtDe => true
  | .ldAAtNn _ => true
  | .incSs ss => ss != .hl
  | .decSs ss => ss != .hl
  | .incR r => !r.isHl
  | .decR r => !r.isHl
  | .ldRN r _ => !r.isHl
  | .rlca => true
  | .rrca => true
  | .rla => true
  | .rra => true
  | .daa => true
  | .cpl => true
  | .scf => true
  | .ccf => true
  | .ldRR r r2 => !r.isHl && !r2.isHl
  | .halt => true
  | .addR r => !r.isHl
  | .addN _ => true
  | .adcR r => !r.isHl
  | .adcN _ => true
  | .subR r => !r.isHl
  | .subN _ => true
  | .sbcR r => !r.isHl
  | .sbcN _ => true
  | .andR r => !r.isHl
  | .andN _ => true
  | .xorR r => !r.isHl
  | .xorN _ => true
  | .orR r => !r.isHl
  | .orN _ => true
  | .cpR r => !r.isHl
  | .cpN _ => true
  | .retCc _ => true
  | .popQq qq => qq != .hl
  | .ret => true
  | .exx => true
  | .jpCcNn _ _ => true
  | .jpNn _ => true
  | .outNA _ => true
  | .inAN _ => true
  | .exDeHl => true
  | .di => true
  | .ei => true
  | .callCcNn _ _ => true
  | .pushQq qq => qq != .hl
  | .callNn _ => true
  | .rst _ => true
  | _ => false

/-- The checks of one row by itself. JR takes only NZ, Z, NC, C (R116, R118). LD r,r' under a prefix names XYh or XYl in at least
one place (R124). The duplicates RETN, IM 0, IM 1, IM 2 and the undefined ED rows keep to their own opcode bytes (R117, R120).
A prefix row by itself is no whole instruction: the table it selects has the row (R118, R132; log entry 15). -/
def Instr.rowWellFormed : Instr → Bool
  | .jrCc cc _ => cc == .nz || cc == .z || cc == .nc || cc == .c
  | .prefixCb _ => false
  | .prefixDd _ _ _ => false
  | .prefixEd _ _ _ => false
  | .prefixFd _ _ _ => false
  | .retn y => y != 1
  | .im0 y => y == 0 || y == 1 || y == 4 || y == 5
  | .im1 y => y == 2 || y == 6
  | .im2 y => y == 3 || y == 7
  | .nopEd2 op => !(op.getLsbD 5 && !op.getLsbD 2)
  | .ldRRIx r r2 => r.isHalf || r2.isHalf
  | .prefixDdCb _ _ => false
  | .ldRRIy r r2 => r.isHalf || r2.isHalf
  | .prefixFdCb _ _ => false
  | .ignoredDd _ => false
  | .ignoredFd _ => false
  | _ => true

/-- The checks an instruction must pass: those of its row, and an ignored prefix stands before a base-table instruction it does not
affect (R125). -/
def Instr.wellFormed : Instr → Bool
  | .ignoredDd base => base.ignoresIndex && base.rowWellFormed
  | .ignoredFd base => base.ignoresIndex && base.rowWellFormed
  | i => i.rowWellFormed

end Sys2Proof
end

