-- ==== Sys2Proof/Decode.lean ====
section
/-! DEFINITION. The decoder (30_encoding R110 to R129, R136) and, after it, the encoder written from the same tables. The decoder is total
on four bytes; on a list of bytes it rejects only a list that ends inside the instruction. -/

namespace Sys2Proof

/-! Bytes, words and opcode fields -/

/-- The high byte of a word (00_scope R9). -/
def hi (w : Word) : Byte := w.extractLsb' 8 8

/-- The low byte of a word (R9). -/
def lo (w : Word) : Byte := w.extractLsb' 0 8

/-- `join x y` is the word whose high byte is x and low byte y (R9, written x ++ y there). -/
def join (x y : Byte) : Word := x ++ y

/-- `sext_8(v)` as a word (R9): a byte read as a two's-complement number, to be added modulo 2^16. -/
def sext (v : Byte) : Word := v.signExtend 16

/-- The field x = op[7:6] (30_encoding R112). -/
def opX (op : Byte) : Nat := (op.extractLsb' 6 2).toNat

/-- The field y = op[5:3] (R112). -/
def opY (op : Byte) : Nat := (op.extractLsb' 3 3).toNat

/-- The field z = op[2:0] (R112). -/
def opZ (op : Byte) : Nat := (op.extractLsb' 0 3).toNat

/-- The field p = op[5:4] (R112). -/
def opP (op : Byte) : Nat := (op.extractLsb' 4 2).toNat

/-- The field q = op[3] (R112). -/
def opQ (op : Byte) : Nat := (op.extractLsb' 3 1).toNat

/-- The field y as the three bits themselves: a bit number, a restart index or a duplicate's number. -/
def opBits (op : Byte) : BitVec 3 := op.extractLsb' 3 3

/-- The opcode byte with the fields x, y, z (R112). -/
def opFields (x y z : Nat) : Byte := BitVec.ofNat 8 (64 * x + 8 * y + z)

/-- The opcode byte with the field x and its six low bits. -/
def opLow6 (x : Nat) (op : BitVec 6) : Byte := BitVec.ofNat 8 (64 * x + op.toNat)

/-! Operand codes -/

/-- R113; code 6 is the memory byte at HL, which has rows of its own and is never asked for here. -/
def Reg8.ofCode : Nat → Reg8
  | 0 => .b
  | 1 => .c
  | 2 => .d
  | 3 => .e
  | 4 => .h
  | 5 => .l
  | _ => .a

/-- R113. -/
def Reg8.code : Reg8 → Nat
  | .b => 0
  | .c => 1
  | .d => 2
  | .e => 3
  | .h => 4
  | .l => 5
  | .a => 7

/-- R124: under a prefix, codes 4 and 5 are XYh and XYl. -/
def RegX.ofCode : Nat → RegX
  | 0 => .b
  | 1 => .c
  | 2 => .d
  | 3 => .e
  | 4 => .xh
  | 5 => .xl
  | _ => .a

/-- R124. -/
def RegX.code : RegX → Nat
  | .b => 0
  | .c => 1
  | .d => 2
  | .e => 3
  | .xh => 4
  | .xl => 5
  | .a => 7

/-- R124: code 4 is XYh, code 5 XYl. -/
def Half.ofCode : Nat → Half
  | 4 => .hi
  | _ => .lo

/-- R124. -/
def Half.code : Half → Nat
  | .hi => 4
  | .lo => 5

/-- The table rp (R114). -/
def Pair.ofCode : Nat → Pair
  | 0 => .bc
  | 1 => .de
  | 2 => .hl
  | _ => .sp

/-- The table rp (R114). -/
def Pair.code : Pair → Nat
  | .bc => 0
  | .de => 1
  | .hl => 2
  | .sp => 3

/-- The table rp2 (R114). -/
def PairQ.ofCode : Nat → PairQ
  | 0 => .bc
  | 1 => .de
  | 2 => .hl
  | _ => .af

/-- The table rp2 (R114). -/
def PairQ.code : PairQ → Nat
  | .bc => 0
  | .de => 1
  | .hl => 2
  | .af => 3

/-- The table pp of ADD XY,pp (R114, R271). -/
def PairX.ofCode : Nat → PairX
  | 0 => .bc
  | 1 => .de
  | 2 => .xy
  | _ => .sp

/-- The table pp (R114, R271). -/
def PairX.code : PairX → Nat
  | .bc => 0
  | .de => 1
  | .xy => 2
  | .sp => 3

/-- The condition codes (R116). -/
def Cond.ofCode : Nat → Cond
  | 0 => .nz
  | 1 => .z
  | 2 => .nc
  | 3 => .c
  | 4 => .po
  | 5 => .pe
  | 6 => .p
  | _ => .m

/-- The condition codes (R116). -/
def Cond.code : Cond → Nat
  | .nz => 0
  | .z => 1
  | .nc => 2
  | .c => 3
  | .po => 4
  | .pe => 5
  | .p => 6
  | .m => 7

/-! The decoder -/

/-- The accumulator operations on a register (R115, x = 2). -/
def decodeAluR (y : Nat) (r : Reg8) : Instr :=
  match y with
  | 0 => .addR r
  | 1 => .adcR r
  | 2 => .subR r
  | 3 => .sbcR r
  | 4 => .andR r
  | 5 => .xorR r
  | 6 => .orR r
  | _ => .cpR r

/-- The accumulator operations on the byte at HL (R115, x = 2, z = 6). -/
def decodeAluAtHl (y : Nat) : Instr :=
  match y with
  | 0 => .addAtHl
  | 1 => .adcAtHl
  | 2 => .subAtHl
  | 3 => .sbcAtHl
  | 4 => .andAtHl
  | 5 => .xorAtHl
  | 6 => .orAtHl
  | _ => .cpAtHl

/-- The accumulator operations on an immediate (R115, x = 3, z = 6). -/
def decodeAluN (y : Nat) (n : Byte) : Instr :=
  match y with
  | 0 => .addN n
  | 1 => .adcN n
  | 2 => .subN n
  | 3 => .sbcN n
  | 4 => .andN n
  | 5 => .xorN n
  | 6 => .orN n
  | _ => .cpN n

/-- The base table, x = 0 (R118). -/
def decodeBase0 (op b1 b2 : Byte) : Instr :=
  match opZ op, opY op with
  | 0, 0 => .nop
  | 0, 1 => .exAfAf
  | 0, 2 => .djnz b1
  | 0, 3 => .jr b1
  | 0, y => .jrCc (Cond.ofCode (y - 4)) b1
  | 1, _ => match opQ op with
    | 0 => .ldDdNn (Pair.ofCode (opP op)) (join b2 b1)
    | _ => .addHlSs (Pair.ofCode (opP op))
  | 2, 0 => .ldAtBcA
  | 2, 1 => .ldAAtBc
  | 2, 2 => .ldAtDeA
  | 2, 3 => .ldAAtDe
  | 2, 4 => .ldAtNnHl (join b2 b1)
  | 2, 5 => .ldHlAtNn (join b2 b1)
  | 2, 6 => .ldAtNnA (join b2 b1)
  | 2, _ => .ldAAtNn (join b2 b1)
  | 3, _ => match opQ op with
    | 0 => .incSs (Pair.ofCode (opP op))
    | _ => .decSs (Pair.ofCode (opP op))
  | 4, 6 => .incAtHl
  | 4, y => .incR (Reg8.ofCode y)
  | 5, 6 => .decAtHl
  | 5, y => .decR (Reg8.ofCode y)
  | 6, 6 => .ldAtHlN b1
  | 6, y => .ldRN (Reg8.ofCode y) b1
  | _, 0 => .rlca
  | _, 1 => .rrca
  | _, 2 => .rla
  | _, 3 => .rra
  | _, 4 => .daa
  | _, 5 => .cpl
  | _, 6 => .scf
  | _, _ => .ccf

/-- The base table, x = 1 (R118). -/
def decodeBase1 (op : Byte) : Instr :=
  match opY op, opZ op with
  | 6, 6 => .halt
  | 6, z => .ldAtHlR (Reg8.ofCode z)
  | y, 6 => .ldRAtHl (Reg8.ofCode y)
  | y, z => .ldRR (Reg8.ofCode y) (Reg8.ofCode z)

/-- The base table, x = 2 (R118). -/
def decodeBase2 (op : Byte) : Instr :=
  match opZ op with
  | 6 => decodeAluAtHl (opY op)
  | z => decodeAluR (opY op) (Reg8.ofCode z)

/-- The base table, x = 3 (R118). The four prefix bytes answer their prefix row: `decode4` sends each to its table before it asks here. -/
def decodeBase3 (op b1 b2 b3 : Byte) : Instr :=
  match opZ op, opY op with
  | 0, y => .retCc (Cond.ofCode y)
  | 1, 1 => .ret
  | 1, 3 => .exx
  | 1, 5 => .jpHl
  | 1, 7 => .ldSpHl
  | 1, _ => .popQq (PairQ.ofCode (opP op))
  | 2, y => .jpCcNn (Cond.ofCode y) (join b2 b1)
  | 3, 0 => .jpNn (join b2 b1)
  | 3, 1 => .prefixCb b1
  | 3, 2 => .outNA b1
  | 3, 3 => .inAN b1
  | 3, 4 => .exAtSpHl
  | 3, 5 => .exDeHl
  | 3, 6 => .di
  | 3, _ => .ei
  | 4, y => .callCcNn (Cond.ofCode y) (join b2 b1)
  | 5, 1 => .callNn (join b2 b1)
  | 5, 3 => .prefixDd b1 b2 b3
  | 5, 5 => .prefixEd b1 b2 b3
  | 5, 7 => .prefixFd b1 b2 b3
  | 5, _ => .pushQq (PairQ.ofCode (opP op))
  | 6, y => decodeAluN y b1
  | _, _ => .rst (opBits op)

/-- The base table (R118): the opcode byte and the three bytes behind it. -/
def decodeBase (op b1 b2 b3 : Byte) : Instr :=
  match opX op with
  | 0 => decodeBase0 op b1 b2
  | 1 => decodeBase1 op
  | 2 => decodeBase2 op
  | _ => decodeBase3 op b1 b2 b3

/-- The rotates and shifts of a register (R117, R119, x = 0). -/
def decodeRotR (y : Nat) (r : Reg8) : Instr :=
  match y with
  | 0 => .rlcR r
  | 1 => .rrcR r
  | 2 => .rlR r
  | 3 => .rrR r
  | 4 => .slaR r
  | 5 => .sraR r
  | 6 => .sllR r
  | _ => .srlR r

/-- The rotates and shifts of the byte at HL (R117, R119, x = 0, z = 6). -/
def decodeRotAtHl (y : Nat) : Instr :=
  match y with
  | 0 => .rlcAtHl
  | 1 => .rrcAtHl
  | 2 => .rlAtHl
  | 3 => .rrAtHl
  | 4 => .slaAtHl
  | 5 => .sraAtHl
  | 6 => .sllAtHl
  | _ => .srlAtHl

/-- The CB table (R119). -/
def decodeCb (op : Byte) : Instr :=
  match opX op, opZ op with
  | 0, 6 => decodeRotAtHl (opY op)
  | 0, z => decodeRotR (opY op) (Reg8.ofCode z)
  | 1, 6 => .bitAtHl (opBits op)
  | 1, z => .bitR (opBits op) (Reg8.ofCode z)
  | 2, 6 => .resAtHl (opBits op)
  | 2, z => .resR (opBits op) (Reg8.ofCode z)
  | _, 6 => .setAtHl (opBits op)
  | _, z => .setR (opBits op) (Reg8.ofCode z)

/-- The ED table, x = 1 (R120). -/
def decodeEd1 (op b2 b3 : Byte) : Instr :=
  match opZ op, opY op with
  | 0, 6 => .inFlags
  | 0, y => .inR (Reg8.ofCode y)
  | 1, 6 => .outZero
  | 1, y => .outR (Reg8.ofCode y)
  | 2, _ => match opQ op with
    | 0 => .sbcHlSs (Pair.ofCode (opP op))
    | _ => .adcHlSs (Pair.ofCode (opP op))
  | 3, _ => match opQ op with
    | 0 => .ldAtNnDd (join b3 b2) (Pair.ofCode (opP op))
    | _ => .ldDdAtNn (Pair.ofCode (opP op)) (join b3 b2)
  | 4, _ => .neg (opBits op)
  | 5, 1 => .reti
  | 5, _ => .retn (opBits op)
  | 6, 2 => .im1 (opBits op)
  | 6, 6 => .im1 (opBits op)
  | 6, 3 => .im2 (opBits op)
  | 6, 7 => .im2 (opBits op)
  | 6, _ => .im0 (opBits op)
  | _, 0 => .ldIA
  | _, 1 => .ldRA
  | _, 2 => .ldAI
  | _, 3 => .ldAR
  | _, 4 => .rrd
  | _, 5 => .rld
  | _, 6 => .nopEd7 false
  | _, _ => .nopEd7 true

/-- The ED table, x = 2: the block instructions, z at most 3 and y at least 4, and the undefined rest (R120). -/
def decodeEd2 (op : Byte) : Instr :=
  match opY op, opZ op with
  | 4, 0 => .ldi
  | 4, 1 => .cpi
  | 4, 2 => .ini
  | 4, 3 => .outi
  | 5, 0 => .ldd
  | 5, 1 => .cpd
  | 5, 2 => .ind
  | 5, 3 => .outd
  | 6, 0 => .ldir
  | 6, 1 => .cpir
  | 6, 2 => .inir
  | 6, 3 => .otir
  | 7, 0 => .lddr
  | 7, 1 => .cpdr
  | 7, 2 => .indr
  | 7, 3 => .otdr
  | _, _ => .nopEd2 (op.extractLsb' 0 6)

/-- The ED table (R120); a prefix byte behind ED is an ordinary undefined opcode. -/
def decodeEd (op b2 b3 : Byte) : Instr :=
  match opX op with
  | 0 => .nopEd0 (op.extractLsb' 0 6)
  | 1 => decodeEd1 op b2 b3
  | 2 => decodeEd2 op
  | _ => .nopEd3 (op.extractLsb' 0 6)

/-- The row of the DD table for IX, its twin of the FD table for IY (R121). -/
def Idx.pick (x : Idx) (forIx forIy : Instr) : Instr :=
  match x with
  | .ix => forIx
  | .iy => forIy

/-- The accumulator operations on XYh or XYl (R124). -/
def decodeAluHalf (x : Idx) (y : Nat) (h : Half) : Instr :=
  match y with
  | 0 => x.pick (.addIxHalf h) (.addIyHalf h)
  | 1 => x.pick (.adcIxHalf h) (.adcIyHalf h)
  | 2 => x.pick (.subIxHalf h) (.subIyHalf h)
  | 3 => x.pick (.sbcIxHalf h) (.sbcIyHalf h)
  | 4 => x.pick (.andIxHalf h) (.andIyHalf h)
  | 5 => x.pick (.xorIxHalf h) (.xorIyHalf h)
  | 6 => x.pick (.orIxHalf h) (.orIyHalf h)
  | _ => x.pick (.cpIxHalf h) (.cpIyHalf h)

/-- The accumulator operations on `(XY+d)` (R122). -/
def decodeAluAtXy (x : Idx) (y : Nat) (d : Byte) : Instr :=
  match y with
  | 0 => x.pick (.addAtIx d) (.addAtIy d)
  | 1 => x.pick (.adcAtIx d) (.adcAtIy d)
  | 2 => x.pick (.subAtIx d) (.subAtIy d)
  | 3 => x.pick (.sbcAtIx d) (.sbcAtIy d)
  | 4 => x.pick (.andAtIx d) (.andAtIy d)
  | 5 => x.pick (.xorAtIx d) (.xorAtIy d)
  | 6 => x.pick (.orAtIx d) (.orAtIy d)
  | _ => x.pick (.cpAtIx d) (.cpAtIy d)

/-- The rotates and shifts of `(XY+d)` (R127, z = 6). -/
def decodeRotAtXy (x : Idx) (y : Nat) (d : Byte) : Instr :=
  match y with
  | 0 => x.pick (.rlcAtIx d) (.rlcAtIy d)
  | 1 => x.pick (.rrcAtIx d) (.rrcAtIy d)
  | 2 => x.pick (.rlAtIx d) (.rlAtIy d)
  | 3 => x.pick (.rrAtIx d) (.rrAtIy d)
  | 4 => x.pick (.slaAtIx d) (.slaAtIy d)
  | 5 => x.pick (.sraAtIx d) (.sraAtIy d)
  | 6 => x.pick (.sllAtIx d) (.sllAtIy d)
  | _ => x.pick (.srlAtIx d) (.srlAtIy d)

/-- The rotates and shifts of `(XY+d)` with a register copy (R127, z ≠ 6). -/
def decodeRotAtXyR (x : Idx) (y : Nat) (d : Byte) (r : Reg8) : Instr :=
  match y with
  | 0 => x.pick (.rlcAtIxR d r) (.rlcAtIyR d r)
  | 1 => x.pick (.rrcAtIxR d r) (.rrcAtIyR d r)
  | 2 => x.pick (.rlAtIxR d r) (.rlAtIyR d r)
  | 3 => x.pick (.rrAtIxR d r) (.rrAtIyR d r)
  | 4 => x.pick (.slaAtIxR d r) (.slaAtIyR d r)
  | 5 => x.pick (.sraAtIxR d r) (.sraAtIyR d r)
  | 6 => x.pick (.sllAtIxR d r) (.sllAtIyR d r)
  | _ => x.pick (.srlAtIxR d r) (.srlAtIyR d r)

/-- The DDCB and FDCB tables: displacement d, then the opcode byte (R111, R127). -/
def decodeXyCb (x : Idx) (d op : Byte) : Instr :=
  match opX op, opZ op with
  | 0, 6 => decodeRotAtXy x (opY op) d
  | 0, z => decodeRotAtXyR x (opY op) d (Reg8.ofCode z)
  | 1, _ => x.pick (.bitAtIx (opBits op) d (op.extractLsb' 0 3)) (.bitAtIy (opBits op) d (op.extractLsb' 0 3))
  | 2, 6 => x.pick (.resAtIx (opBits op) d) (.resAtIy (opBits op) d)
  | 2, z => x.pick (.resAtIxR (opBits op) d (Reg8.ofCode z)) (.resAtIyR (opBits op) d (Reg8.ofCode z))
  | _, 6 => x.pick (.setAtIx (opBits op) d) (.setAtIy (opBits op) d)
  | _, z => x.pick (.setAtIxR (opBits op) d (Reg8.ofCode z)) (.setAtIyR (opBits op) d (Reg8.ofCode z))

/-- A prefix before a base-table opcode it does not affect (R125). -/
def decodeIgnored (x : Idx) (op b2 b3 : Byte) : Instr :=
  x.pick (.ignoredDd (decodeBase op b2 b3 0)) (.ignoredFd (decodeBase op b2 b3 0))

/-- The DD and FD tables, x = 0 (R121 to R125). -/
def decodeXy0 (x : Idx) (op b2 b3 : Byte) : Instr :=
  match opZ op, opY op with
  | 1, 4 => x.pick (.ldIxNn (join b3 b2)) (.ldIyNn (join b3 b2))
  | 1, 1 => x.pick (.addIxPp .bc) (.addIyPp .bc)
  | 1, 3 => x.pick (.addIxPp .de) (.addIyPp .de)
  | 1, 5 => x.pick (.addIxPp .xy) (.addIyPp .xy)
  | 1, 7 => x.pick (.addIxPp .sp) (.addIyPp .sp)
  | 2, 4 => x.pick (.ldAtNnIx (join b3 b2)) (.ldAtNnIy (join b3 b2))
  | 2, 5 => x.pick (.ldIxAtNn (join b3 b2)) (.ldIyAtNn (join b3 b2))
  | 3, 4 => x.pick .incIx .incIy
  | 3, 5 => x.pick .decIx .decIy
  | 4, 4 => x.pick (.incIxHalf .hi) (.incIyHalf .hi)
  | 4, 5 => x.pick (.incIxHalf .lo) (.incIyHalf .lo)
  | 4, 6 => x.pick (.incAtIx b2) (.incAtIy b2)
  | 5, 4 => x.pick (.decIxHalf .hi) (.decIyHalf .hi)
  | 5, 5 => x.pick (.decIxHalf .lo) (.decIyHalf .lo)
  | 5, 6 => x.pick (.decAtIx b2) (.decAtIy b2)
  | 6, 4 => x.pick (.ldIxHalfN .hi b2) (.ldIyHalfN .hi b2)
  | 6, 5 => x.pick (.ldIxHalfN .lo b2) (.ldIyHalfN .lo b2)
  | 6, 6 => x.pick (.ldAtIxN b2 b3) (.ldAtIyN b2 b3)
  | _, _ => decodeIgnored x op b2 b3

/-- The DD and FD tables, x = 1 (R122, R124, R125). -/
def decodeXy1 (x : Idx) (op b2 b3 : Byte) : Instr :=
  match opY op, opZ op with
  | 6, 6 => decodeIgnored x op b2 b3
  | 6, z => x.pick (.ldAtIxR b2 (Reg8.ofCode z)) (.ldAtIyR b2 (Reg8.ofCode z))
  | y, 6 => x.pick (.ldRAtIx (Reg8.ofCode y) b2) (.ldRAtIy (Reg8.ofCode y) b2)
  | y, z =>
    if (RegX.ofCode y).isHalf || (RegX.ofCode z).isHalf then
      x.pick (.ldRRIx (RegX.ofCode y) (RegX.ofCode z)) (.ldRRIy (RegX.ofCode y) (RegX.ofCode z))
    else decodeIgnored x op b2 b3

/-- The DD and FD tables, x = 2 (R122, R124, R125). -/
def decodeXy2 (x : Idx) (op b2 b3 : Byte) : Instr :=
  match opZ op with
  | 4 => decodeAluHalf x (opY op) .hi
  | 5 => decodeAluHalf x (opY op) .lo
  | 6 => decodeAluAtXy x (opY op) b2
  | _ => decodeIgnored x op b2 b3

/-- The DD and FD tables, x = 3 (R121, R123, R125 to R127). -/
def decodeXy3 (x : Idx) (op b2 b3 : Byte) : Instr :=
  match opZ op, opY op with
  | 1, 4 => x.pick .popIx .popIy
  | 1, 5 => x.pick .jpIx .jpIy
  | 1, 7 => x.pick .ldSpIx .ldSpIy
  | 3, 1 => decodeXyCb x b2 b3
  | 3, 4 => x.pick .exAtSpIx .exAtSpIy
  | 5, 3 => x.pick .loneDd .loneFd
  | 5, 4 => x.pick .pushIx .pushIy
  | 5, 5 => x.pick .loneDd .loneFd
  | 5, 7 => x.pick .loneDd .loneFd
  | _, _ => decodeIgnored x op b2 b3

/-- The DD and FD tables: the opcode byte and the two bytes behind it (R121 to R126). -/
def decodeXy (x : Idx) (op b2 b3 : Byte) : Instr :=
  match opX op with
  | 0 => decodeXy0 x op b2 b3
  | 1 => decodeXy1 x op b2 b3
  | 2 => decodeXy2 x op b2 b3
  | _ => decodeXy3 x op b2 b3

/-- The instruction that four bytes hold; total (R136). Bytes past its length are not looked at, but that a lone prefix is one because of
the byte behind it (R126). -/
def decode4 (b0 b1 b2 b3 : Byte) : Instr :=
  if b0 = 0xCB then decodeCb b1
  else if b0 = 0xED then decodeEd b1 b2 b3
  else if b0 = 0xDD then decodeXy .ix b1 b2 b3
  else if b0 = 0xFD then decodeXy .iy b1 b2 b3
  else decodeBase b0 b1 b2 b3

/-! The encoder -/

/-- The bytes of a row (opcode_table.json; R110, R111). -/
def Instr.encodeRow : Instr → List Byte
  | .nop => [0x00]
  | .exAfAf => [0x08]
  | .djnz e => [0x10, e]
  | .jr e => [0x18, e]
  | .jrCc cc e => [opFields 0 (cc.code + 4) 0, e]
  | .ldDdNn dd nn => [opFields 0 (2 * dd.code) 1, lo nn, hi nn]
  | .addHlSs ss => [opFields 0 (2 * ss.code + 1) 1]
  | .ldAtBcA => [0x02]
  | .ldAtDeA => [0x12]
  | .ldAtNnHl nn => [0x22, lo nn, hi nn]
  | .ldAtNnA nn => [0x32, lo nn, hi nn]
  | .ldAAtBc => [0x0A]
  | .ldAAtDe => [0x1A]
  | .ldHlAtNn nn => [0x2A, lo nn, hi nn]
  | .ldAAtNn nn => [0x3A, lo nn, hi nn]
  | .incSs ss => [opFields 0 (2 * ss.code) 3]
  | .decSs ss => [opFields 0 (2 * ss.code + 1) 3]
  | .incR r => [opFields 0 r.code 4]
  | .incAtHl => [0x34]
  | .decR r => [opFields 0 r.code 5]
  | .decAtHl => [0x35]
  | .ldRN r n => [opFields 0 r.code 6, n]
  | .ldAtHlN n => [0x36, n]
  | .rlca => [0x07]
  | .rrca => [0x0F]
  | .rla => [0x17]
  | .rra => [0x1F]
  | .daa => [0x27]
  | .cpl => [0x2F]
  | .scf => [0x37]
  | .ccf => [0x3F]
  | .ldRR r r2 => [opFields 1 r.code r2.code]
  | .ldRAtHl r => [opFields 1 r.code 6]
  | .ldAtHlR r => [opFields 1 6 r.code]
  | .halt => [0x76]
  | .addR r => [opFields 2 0 r.code]
  | .addAtHl => [0x86]
  | .addN n => [0xC6, n]
  | .adcR r => [opFields 2 1 r.code]
  | .adcAtHl => [0x8E]
  | .adcN n => [0xCE, n]
  | .subR r => [opFields 2 2 r.code]
  | .subAtHl => [0x96]
  | .subN n => [0xD6, n]
  | .sbcR r => [opFields 2 3 r.code]
  | .sbcAtHl => [0x9E]
  | .sbcN n => [0xDE, n]
  | .andR r => [opFields 2 4 r.code]
  | .andAtHl => [0xA6]
  | .andN n => [0xE6, n]
  | .xorR r => [opFields 2 5 r.code]
  | .xorAtHl => [0xAE]
  | .xorN n => [0xEE, n]
  | .orR r => [opFields 2 6 r.code]
  | .orAtHl => [0xB6]
  | .orN n => [0xF6, n]
  | .cpR r => [opFields 2 7 r.code]
  | .cpAtHl => [0xBE]
  | .cpN n => [0xFE, n]
  | .retCc cc => [opFields 3 cc.code 0]
  | .popQq qq => [opFields 3 (2 * qq.code) 1]
  | .ret => [0xC9]
  | .exx => [0xD9]
  | .jpHl => [0xE9]
  | .ldSpHl => [0xF9]
  | .jpCcNn cc nn => [opFields 3 cc.code 2, lo nn, hi nn]
  | .jpNn nn => [0xC3, lo nn, hi nn]
  | .outNA n => [0xD3, n]
  | .inAN n => [0xDB, n]
  | .exAtSpHl => [0xE3]
  | .exDeHl => [0xEB]
  | .di => [0xF3]
  | .ei => [0xFB]
  | .callCcNn cc nn => [opFields 3 cc.code 4, lo nn, hi nn]
  | .pushQq qq => [opFields 3 (2 * qq.code) 5]
  | .callNn nn => [0xCD, lo nn, hi nn]
  | .rst p => [opFields 3 p.toNat 7]
  | .prefixCb op => [0xCB, op]
  | .prefixDd b1 b2 b3 => [0xDD, b1, b2, b3]
  | .prefixEd b1 b2 b3 => [0xED, b1, b2, b3]
  | .prefixFd b1 b2 b3 => [0xFD, b1, b2, b3]
  | .rlcR r => [0xCB, opFields 0 0 r.code]
  | .rlcAtHl => [0xCB, 0x06]
  | .rrcR r => [0xCB, opFields 0 1 r.code]
  | .rrcAtHl => [0xCB, 0x0E]
  | .rlR r => [0xCB, opFields 0 2 r.code]
  | .rlAtHl => [0xCB, 0x16]
  | .rrR r => [0xCB, opFields 0 3 r.code]
  | .rrAtHl => [0xCB, 0x1E]
  | .slaR r => [0xCB, opFields 0 4 r.code]
  | .slaAtHl => [0xCB, 0x26]
  | .sraR r => [0xCB, opFields 0 5 r.code]
  | .sraAtHl => [0xCB, 0x2E]
  | .sllR r => [0xCB, opFields 0 6 r.code]
  | .sllAtHl => [0xCB, 0x36]
  | .srlR r => [0xCB, opFields 0 7 r.code]
  | .srlAtHl => [0xCB, 0x3E]
  | .bitR b r => [0xCB, opFields 1 b.toNat r.code]
  | .bitAtHl b => [0xCB, opFields 1 b.toNat 6]
  | .resR b r => [0xCB, opFields 2 b.toNat r.code]
  | .resAtHl b => [0xCB, opFields 2 b.toNat 6]
  | .setR b r => [0xCB, opFields 3 b.toNat r.code]
  | .setAtHl b => [0xCB, opFields 3 b.toNat 6]
  | .inR r => [0xED, opFields 1 r.code 0]
  | .inFlags => [0xED, 0x70]
  | .outR r => [0xED, opFields 1 r.code 1]
  | .outZero => [0xED, 0x71]
  | .sbcHlSs ss => [0xED, opFields 1 (2 * ss.code) 2]
  | .adcHlSs ss => [0xED, opFields 1 (2 * ss.code + 1) 2]
  | .ldAtNnDd nn dd => [0xED, opFields 1 (2 * dd.code) 3, lo nn, hi nn]
  | .ldDdAtNn dd nn => [0xED, opFields 1 (2 * dd.code + 1) 3, lo nn, hi nn]
  | .neg y => [0xED, opFields 1 y.toNat 4]
  | .retn y => [0xED, opFields 1 y.toNat 5]
  | .reti => [0xED, 0x4D]
  | .im0 y => [0xED, opFields 1 y.toNat 6]
  | .im1 y => [0xED, opFields 1 y.toNat 6]
  | .im2 y => [0xED, opFields 1 y.toNat 6]
  | .ldIA => [0xED, 0x47]
  | .ldRA => [0xED, 0x4F]
  | .ldAI => [0xED, 0x57]
  | .ldAR => [0xED, 0x5F]
  | .rrd => [0xED, 0x67]
  | .rld => [0xED, 0x6F]
  | .ldi => [0xED, 0xA0]
  | .cpi => [0xED, 0xA1]
  | .ini => [0xED, 0xA2]
  | .outi => [0xED, 0xA3]
  | .ldd => [0xED, 0xA8]
  | .cpd => [0xED, 0xA9]
  | .ind => [0xED, 0xAA]
  | .outd => [0xED, 0xAB]
  | .ldir => [0xED, 0xB0]
  | .cpir => [0xED, 0xB1]
  | .inir => [0xED, 0xB2]
  | .otir => [0xED, 0xB3]
  | .lddr => [0xED, 0xB8]
  | .cpdr => [0xED, 0xB9]
  | .indr => [0xED, 0xBA]
  | .otdr => [0xED, 0xBB]
  | .nopEd0 op => [0xED, opLow6 0 op]
  | .nopEd3 op => [0xED, opLow6 3 op]
  | .nopEd7 y0 => [0xED, if y0 then 0x7F else 0x77]
  | .nopEd2 op => [0xED, opLow6 2 op]
  | .ldIxNn nn => [0xDD, 0x21, lo nn, hi nn]
  | .ldAtNnIx nn => [0xDD, 0x22, lo nn, hi nn]
  | .incIx => [0xDD, 0x23]
  | .ldIxAtNn nn => [0xDD, 0x2A, lo nn, hi nn]
  | .decIx => [0xDD, 0x2B]
  | .addIxPp pp => [0xDD, opFields 0 (2 * pp.code + 1) 1]
  | .incIxHalf x => [0xDD, opFields 0 x.code 4]
  | .decIxHalf x => [0xDD, opFields 0 x.code 5]
  | .ldIxHalfN x n => [0xDD, opFields 0 x.code 6, n]
  | .incAtIx d => [0xDD, 0x34, d]
  | .decAtIx d => [0xDD, 0x35, d]
  | .ldAtIxN d n => [0xDD, 0x36, d, n]
  | .ldRAtIx r d => [0xDD, opFields 1 r.code 6, d]
  | .ldAtIxR d r => [0xDD, opFields 1 6 r.code, d]
  | .ldRRIx r r2 => [0xDD, opFields 1 r.code r2.code]
  | .addIxHalf x => [0xDD, opFields 2 0 x.code]
  | .addAtIx d => [0xDD, 0x86, d]
  | .adcIxHalf x => [0xDD, opFields 2 1 x.code]
  | .adcAtIx d => [0xDD, 0x8E, d]
  | .subIxHalf x => [0xDD, opFields 2 2 x.code]
  | .subAtIx d => [0xDD, 0x96, d]
  | .sbcIxHalf x => [0xDD, opFields 2 3 x.code]
  | .sbcAtIx d => [0xDD, 0x9E, d]
  | .andIxHalf x => [0xDD, opFields 2 4 x.code]
  | .andAtIx d => [0xDD, 0xA6, d]
  | .xorIxHalf x => [0xDD, opFields 2 5 x.code]
  | .xorAtIx d => [0xDD, 0xAE, d]
  | .orIxHalf x => [0xDD, opFields 2 6 x.code]
  | .orAtIx d => [0xDD, 0xB6, d]
  | .cpIxHalf x => [0xDD, opFields 2 7 x.code]
  | .cpAtIx d => [0xDD, 0xBE, d]
  | .popIx => [0xDD, 0xE1]
  | .exAtSpIx => [0xDD, 0xE3]
  | .pushIx => [0xDD, 0xE5]
  | .jpIx => [0xDD, 0xE9]
  | .ldSpIx => [0xDD, 0xF9]
  | .prefixDdCb d op => [0xDD, 0xCB, d, op]
  | .loneDd => [0xDD]
  | .rlcAtIx d => [0xDD, 0xCB, d, 0x06]
  | .rlcAtIxR d r => [0xDD, 0xCB, d, opFields 0 0 r.code]
  | .rrcAtIx d => [0xDD, 0xCB, d, 0x0E]
  | .rrcAtIxR d r => [0xDD, 0xCB, d, opFields 0 1 r.code]
  | .rlAtIx d => [0xDD, 0xCB, d, 0x16]
  | .rlAtIxR d r => [0xDD, 0xCB, d, opFields 0 2 r.code]
  | .rrAtIx d => [0xDD, 0xCB, d, 0x1E]
  | .rrAtIxR d r => [0xDD, 0xCB, d, opFields 0 3 r.code]
  | .slaAtIx d => [0xDD, 0xCB, d, 0x26]
  | .slaAtIxR d r => [0xDD, 0xCB, d, opFields 0 4 r.code]
  | .sraAtIx d => [0xDD, 0xCB, d, 0x2E]
  | .sraAtIxR d r => [0xDD, 0xCB, d, opFields 0 5 r.code]
  | .sllAtIx d => [0xDD, 0xCB, d, 0x36]
  | .sllAtIxR d r => [0xDD, 0xCB, d, opFields 0 6 r.code]
  | .srlAtIx d => [0xDD, 0xCB, d, 0x3E]
  | .srlAtIxR d r => [0xDD, 0xCB, d, opFields 0 7 r.code]
  | .bitAtIx b d z => [0xDD, 0xCB, d, opFields 1 b.toNat z.toNat]
  | .resAtIx b d => [0xDD, 0xCB, d, opFields 2 b.toNat 6]
  | .resAtIxR b d r => [0xDD, 0xCB, d, opFields 2 b.toNat r.code]
  | .setAtIx b d => [0xDD, 0xCB, d, opFields 3 b.toNat 6]
  | .setAtIxR b d r => [0xDD, 0xCB, d, opFields 3 b.toNat r.code]
  | .ldIyNn nn => [0xFD, 0x21, lo nn, hi nn]
  | .ldAtNnIy nn => [0xFD, 0x22, lo nn, hi nn]
  | .incIy => [0xFD, 0x23]
  | .ldIyAtNn nn => [0xFD, 0x2A, lo nn, hi nn]
  | .decIy => [0xFD, 0x2B]
  | .addIyPp pp => [0xFD, opFields 0 (2 * pp.code + 1) 1]
  | .incIyHalf x => [0xFD, opFields 0 x.code 4]
  | .decIyHalf x => [0xFD, opFields 0 x.code 5]
  | .ldIyHalfN x n => [0xFD, opFields 0 x.code 6, n]
  | .incAtIy d => [0xFD, 0x34, d]
  | .decAtIy d => [0xFD, 0x35, d]
  | .ldAtIyN d n => [0xFD, 0x36, d, n]
  | .ldRAtIy r d => [0xFD, opFields 1 r.code 6, d]
  | .ldAtIyR d r => [0xFD, opFields 1 6 r.code, d]
  | .ldRRIy r r2 => [0xFD, opFields 1 r.code r2.code]
  | .addIyHalf x => [0xFD, opFields 2 0 x.code]
  | .addAtIy d => [0xFD, 0x86, d]
  | .adcIyHalf x => [0xFD, opFields 2 1 x.code]
  | .adcAtIy d => [0xFD, 0x8E, d]
  | .subIyHalf x => [0xFD, opFields 2 2 x.code]
  | .subAtIy d => [0xFD, 0x96, d]
  | .sbcIyHalf x => [0xFD, opFields 2 3 x.code]
  | .sbcAtIy d => [0xFD, 0x9E, d]
  | .andIyHalf x => [0xFD, opFields 2 4 x.code]
  | .andAtIy d => [0xFD, 0xA6, d]
  | .xorIyHalf x => [0xFD, opFields 2 5 x.code]
  | .xorAtIy d => [0xFD, 0xAE, d]
  | .orIyHalf x => [0xFD, opFields 2 6 x.code]
  | .orAtIy d => [0xFD, 0xB6, d]
  | .cpIyHalf x => [0xFD, opFields 2 7 x.code]
  | .cpAtIy d => [0xFD, 0xBE, d]
  | .popIy => [0xFD, 0xE1]
  | .exAtSpIy => [0xFD, 0xE3]
  | .pushIy => [0xFD, 0xE5]
  | .jpIy => [0xFD, 0xE9]
  | .ldSpIy => [0xFD, 0xF9]
  | .prefixFdCb d op => [0xFD, 0xCB, d, op]
  | .loneFd => [0xFD]
  | .rlcAtIy d => [0xFD, 0xCB, d, 0x06]
  | .rlcAtIyR d r => [0xFD, 0xCB, d, opFields 0 0 r.code]
  | .rrcAtIy d => [0xFD, 0xCB, d, 0x0E]
  | .rrcAtIyR d r => [0xFD, 0xCB, d, opFields 0 1 r.code]
  | .rlAtIy d => [0xFD, 0xCB, d, 0x16]
  | .rlAtIyR d r => [0xFD, 0xCB, d, opFields 0 2 r.code]
  | .rrAtIy d => [0xFD, 0xCB, d, 0x1E]
  | .rrAtIyR d r => [0xFD, 0xCB, d, opFields 0 3 r.code]
  | .slaAtIy d => [0xFD, 0xCB, d, 0x26]
  | .slaAtIyR d r => [0xFD, 0xCB, d, opFields 0 4 r.code]
  | .sraAtIy d => [0xFD, 0xCB, d, 0x2E]
  | .sraAtIyR d r => [0xFD, 0xCB, d, opFields 0 5 r.code]
  | .sllAtIy d => [0xFD, 0xCB, d, 0x36]
  | .sllAtIyR d r => [0xFD, 0xCB, d, opFields 0 6 r.code]
  | .srlAtIy d => [0xFD, 0xCB, d, 0x3E]
  | .srlAtIyR d r => [0xFD, 0xCB, d, opFields 0 7 r.code]
  | .bitAtIy b d z => [0xFD, 0xCB, d, opFields 1 b.toNat z.toNat]
  | .resAtIy b d => [0xFD, 0xCB, d, opFields 2 b.toNat 6]
  | .resAtIyR b d r => [0xFD, 0xCB, d, opFields 2 b.toNat r.code]
  | .setAtIy b d => [0xFD, 0xCB, d, opFields 3 b.toNat 6]
  | .setAtIyR b d r => [0xFD, 0xCB, d, opFields 3 b.toNat r.code]
  | .ignoredDd _ => []
  | .ignoredFd _ => []

/-- The bytes of an instruction; an ignored prefix stands before the bytes of the base-table row (R125). -/
def Instr.encode : Instr → List Byte
  | .ignoredDd base => 0xDD :: base.encodeRow
  | .ignoredFd base => 0xFD :: base.encodeRow
  | i => i.encodeRow

/-- The length of an instruction in bytes (R129). -/
def Instr.length (i : Instr) : Nat := i.encode.length

/-- The opcode byte of a base-table row: its first byte. -/
def Instr.opcode (i : Instr) : Byte := i.encode.headD 0

/-- Why a list of bytes is no instruction. -/
inductive DecodeError where
  /-- The list ends inside the instruction it begins. -/
  | truncated
  deriving DecidableEq, Repr

/-- The instruction at the head of a list of bytes, and the rest of the list (R129, R136). -/
def decode (bs : List Byte) : Except DecodeError (Instr × List Byte) :=
  let i := decode4 (bs.getD 0 0) (bs.getD 1 0) (bs.getD 2 0) (bs.getD 3 0)
  if i.length ≤ bs.length then .ok (i, bs.drop i.length) else .error .truncated

/-- Byte k of an instruction laid out from the number w of nbits bits: the bits above nbits are zero. -/
def tableByte (nbits w k : Nat) : Byte :=
  BitVec.ofNat 8 ((w % 2 ^ nbits) / 2 ^ (8 * k))

/-- The instruction that the decoder reads from the bits of w, least significant byte first. -/
def decodeTableWord (nbits w : Nat) : Option Instr :=
  match decode [tableByte nbits w 0, tableByte nbits w 1, tableByte nbits w 2, tableByte nbits w 3] with
  | .ok (i, _) => some i
  | .error _ => none

end Sys2Proof
end

