-- ==== Sys2Proof/Config.lean ====
section
/-! DEFINITION. What the spec leaves to a parameter that is a function, and the free values (00_scope R8, 93_implementation_defined Part 1).
The parameters that are plain data (bus_byte, msg_capacity, the log switches, ...) stand in State, see Params in Machine/State.lean. -/

namespace Sys2Proof

/-- The two kinds of diagnostic message with what each reports (60_exceptions R442). -/
inductive MsgEvent where
  /-- A no-effect form ran: the address of its first byte and the bytes R377 to R379 name. -/
  | undefinedOpcode (pc0 : Word) (bytes : List Byte)
  /-- A write that a ROM-backed location ignored (20_memory R71). -/
  | romWrite (addr : Word) (v : Byte)
  deriving DecidableEq, Repr

/-- A free byte, one for each use: the draws of flag bits (42_block R219, 45_rotate_bit R304). The argument is the state's `draws`
counter, so that two draws share nothing. No body: log entry 5. -/
opaque Config.freeByte : Nat → Byte

/-- The byte the I/O oracle answers when the host has lined up no answer: free for each port and each read
(47_io R350, D34). No body: log entry 6. -/
opaque Config.ioAnswer : Word → Nat → Byte

/-- `unmapped_read(addr)`: the byte read past the end of a linear image, free for each address (20_memory R96, D52). No body: log entry 7. -/
opaque Config.unmappedRead : Word → Byte

/-- `msg_text(kind, info)`: the text of a diagnostic message, left OPEN by the spec (60_exceptions R441, D22). No body: log entry 8. -/
opaque Config.msgText : MsgEvent → Text

/-- A matcher the host plugs in for `msg_match(pattern, text)` instead of the default (00_scope R8, D23), left free. No body: log entry 8. -/
opaque Config.pluggedMatch : Text → Text → Bool

/-- The size of a ROM page and of a cartridge RAM bank: 16 KiB (R14, 20_memory R73, R81). -/
def Config.pageSize : Nat := 16384

/-- The longest image of a linear kind: 48 KiB (20_memory R74). -/
def Config.linearMax : Nat := 49152

/-- The size of the Standard mapper's cartridge RAM: 32 KiB (10_state R42, D18). -/
def Config.cartSize : Nat := 32768

end Sys2Proof
end

