-- ==== Sys2Proof/Machine/State.lean ====
section
/-! DEFINITION. The state of the block (10_state R20), the parameters of 00_scope R8 that are plain data, and the model's own fields.
Everything is plain data. INVENTORY.md, State, lists every field with its rule and its reset value. -/

namespace Sys2Proof.Machine

/-- One register bank: A, F and the three pairs as their halves (R21, R22, R23). F is S Z Y H X PV N C from bit 7 down (R27). -/
structure Bank where
  a : Byte
  f : Byte
  b : Byte
  c : Byte
  d : Byte
  e : Byte
  h : Byte
  l : Byte
  deriving DecidableEq, Repr

/-- The interrupt mode selector (R35). -/
inductive IntMode where
  | mode0 | mode1 | mode2
  deriving DecidableEq, Repr

/-- The interrupt and halt bits (R34 to R40). -/
structure Ctl where
  /-- IFF1 (R34). -/
  iff1 : Bool
  /-- IFF2 (R34). -/
  iff2 : Bool
  /-- IM (R35). -/
  im : IntMode
  /-- HALTED (R36). -/
  halted : Bool
  /-- EI_DEFER (R37). -/
  eiDefer : Bool
  /-- PREFIX_DEFER (R38). -/
  prefixDefer : Bool
  /-- NMI_PENDING (R39). -/
  nmiPending : Bool
  /-- INT_PENDING (R40). -/
  intPending : Bool
  deriving DecidableEq, Repr

/-- The Standard mapper's bank-select registers (20_memory R80). -/
structure StandardRegs where
  ramctl : Byte
  bank0 : Byte
  bank1 : Byte
  bank2 : Byte
  deriving DecidableEq, Repr

/-- The CodeMasters mapper's bank-select registers (R90). -/
structure CodeMastersRegs where
  cm0 : Byte
  cm1 : Byte
  cm2 : Byte
  deriving DecidableEq, Repr

/-- The mapper state: the kind tag and that kind's registers (10_state R42; 20_memory R80, R90, R96). -/
inductive Mapper where
  | standard (regs : StandardRegs)
  | codeMasters (regs : CodeMastersRegs)
  | sg1000
  | noMapper
  deriving DecidableEq, Repr

/-- The four mapper kinds (00_scope R3). -/
inductive MapperKind where
  | standard | codeMasters | sg1000 | noMapper
  deriving DecidableEq, Repr

/-- A byte memory: (offset, byte) pairs, offsets strictly rising, no byte 0x00 listed; an unlisted offset reads 0x00 (log entry 2). -/
abbrev Memory := List Host.Cell

/-- Memory and mapper (10_state R42). -/
structure Store where
  /-- The ROM image's bytes, by offset in the image. -/
  rom : Memory
  /-- The length of the ROM image. -/
  romLen : Nat
  /-- System RAM, by offset from 0 to ramSize - 1. -/
  ram : Memory
  /-- `ram_size`. -/
  ramSize : Nat
  /-- Cartridge RAM, two banks of 16 KiB, by offset (Standard kind only). -/
  cart : Memory
  /-- Kind tag and bank-select registers. -/
  mapper : Mapper
  deriving DecidableEq, Repr

/-- The execution state (R47). -/
inductive ExecState where
  | running | held | singleStepPending
  deriving DecidableEq, Repr

/-- The debug commands (60_exceptions R450). -/
inductive Command where
  | step
  | hold
  | resume
  | breakAtPc (addr : Word)
  | removePcBreakpoints
  | breakAtMessage (pattern : Text)
  | removeBreakMessages
  | showRecentMessages
  | status
  /-- The optional start address and the optional count of instructions (R461). -/
  | disassemble (start : Option Word) (count : Option Nat)
  deriving DecidableEq, Repr

/-- What Status reports (60_exceptions R459). F's named bits are those of `main.f` (R27). -/
structure StatusView where
  main : Bank
  alt : Bank
  ix : Word
  iy : Word
  sp : Word
  pc : Word
  i : Byte
  r : Byte
  iff1 : Bool
  iff2 : Bool
  im : IntMode
  halted : Bool
  nmiPending : Bool
  intPending : Bool
  mapper : Mapper
  execState : ExecState
  cycles : Nat
  deriving DecidableEq, Repr

/-- One line of a disassembly: address, width, bytes, text (60_exceptions R461). -/
structure DisasmLine where
  addr : Word
  length : Nat
  bytes : List Byte
  text : Text
  deriving DecidableEq, Repr

/-- What a tick can report to the host (60_exceptions R465). -/
inductive Report where
  | breakpointHit (pc : Word)
  | messageBreak (text : Text)
  | statusView (v : StatusView)
  | disassembly (lines : List DisasmLine)
  | recentMessages (texts : List Text)
  deriving DecidableEq, Repr

/-- The breakpoint and message registry and the debug control state (R45 to R49). -/
structure Debug where
  /-- PC_BPS, a set: no address twice (R45). -/
  pcBps : List Word
  /-- MSG_BPS, a set: no pattern twice (R45). -/
  msgBps : List Text
  /-- MSGS, oldest first (R46). -/
  msgs : List Text
  /-- EXEC (R47). -/
  execState : ExecState
  /-- CMDQ, oldest first (R48). -/
  cmdQ : List Command
  /-- SKIP_BP (R49). -/
  skipBp : Bool
  /-- The model's own: the first text this step emitted that a message breakpoint matches (60_exceptions R441). -/
  msgHit : Option Text
  /-- The model's own: the reports so far, oldest first (60_exceptions R460). -/
  reports : List Report
  deriving DecidableEq, Repr

/-- One access to the I/O space (47_io R350, R351). -/
inductive IoEvent where
  | read (port : Word) (answer : Byte)
  | write (port : Word) (v : Byte)
  deriving DecidableEq, Repr

/-- The model's own: the I/O interface as two sequences (47_io R350, R351; log entry 6). -/
structure Io where
  /-- The answers the host has lined up, next first. -/
  answers : List Byte
  /-- The accesses so far, oldest first. -/
  trace : List IoEvent
  deriving DecidableEq, Repr

/-- `msg_match`: the spec's default, substring match, or a matcher the host plugs in (00_scope R8, D23; log entry 8). -/
inductive Matcher where
  | substring
  | plugged
  deriving DecidableEq, Repr

/-- The parameters of 00_scope R8 that are plain data and that a step reads; no step changes them (log entry 4). -/
structure Params where
  /-- `bus_byte`. -/
  busByte : Byte
  /-- `msg_capacity`. -/
  msgCapacity : Nat
  /-- `log_undefined`. -/
  logUndefined : Bool
  /-- `log_rom_writes`. -/
  logRomWrites : Bool
  /-- `disasm_default_count`. -/
  disasmCount : Nat
  /-- Which `msg_match`. -/
  matcher : Matcher
  deriving DecidableEq, Repr

/-- The state of the block (10_state R20), with the parameters and the model's own fields. -/
structure State where
  /-- The main register set (R21). -/
  main : Bank
  /-- The alternate register set (R23). -/
  alt : Bank
  /-- IX (R25). -/
  ix : Word
  /-- IY (R25). -/
  iy : Word
  /-- SP (R26). -/
  sp : Word
  /-- PC (R31). -/
  pc : Word
  /-- I, the interrupt vector register (R32). -/
  i : Byte
  /-- R, the memory-refresh register (R33). -/
  r : Byte
  /-- Interrupt and halt bits (R34 to R40). -/
  ctl : Ctl
  /-- Memory and mapper (R42). -/
  store : Store
  /-- CYCLES (R44). -/
  cycles : Nat
  /-- Registry and debug control (R45 to R49). -/
  plane : Debug
  /-- REFUSED (R49, 60_exceptions R402). -/
  refused : Bool
  /-- The parameters (00_scope R8). -/
  params : Params
  /-- The model's own: I/O answers and accesses. -/
  io : Io
  /-- The model's own: how many free values have been drawn (log entry 5). -/
  draws : Nat
  deriving DecidableEq, Repr

/-- Errors the host gets back from one of its own calls. No instruction and no step raises one (60_exceptions R400, R403). -/
inductive Fault where
  /-- Raised by `configure`: the fatal configuration error (20_memory R74). Safe: no state is built. -/
  | fatalConfiguration
  /-- Raised by `restore`: InvalidSnapshot (60_exceptions R468). Safe: the state is unchanged. -/
  | invalidSnapshot
  deriving DecidableEq, Repr

/-- Why an instruction or an acceptance has no meaning (60_exceptions R402). -/
inductive Refusal where
  /-- Raised by an arm of `exec` only, for an instruction without a meaning. Safe: the step stops. -/
  | notModelled (mnemonic : String)
  /-- Raised by a write of RAMCTL with bit 0, 1 or 4 set, or of CM1 with bit 7 set (20_memory R83, R93). Safe: the engine step discards
  the step and sets REFUSED (R402). -/
  | unmodelledMapperControl
  /-- Raised by a mode-0 acceptance with a bus byte that is no RST opcode (60_exceptions R426). Safe, as above. -/
  | unmodelledIm0Instruction
  /-- Raised by `exec` on a term that is no instruction: an ignored prefix before a row it cannot stand before. No bytes decode to one.
  Safe: the step stops. -/
  | illFormed
  deriving DecidableEq, Repr

/-- The reasons of 60_exceptions R402: those the engine step turns into REFUSED. -/
def Refusal.isSpecified : Refusal → Bool
  | .notModelled _ => false
  | .illFormed => false
  | .unmodelledMapperControl => true
  | .unmodelledIm0Instruction => true

/-- A register bank of zeros (log entry 1). -/
def Bank.zero : Bank := ⟨0, 0, 0, 0, 0, 0, 0, 0⟩

/-- The interrupt and halt bits after a reset (70_reset_and_hazards R480). -/
def Ctl.reset : Ctl :=
  { iff1 := false, iff2 := false, im := .mode0, halted := false,
    eiDefer := false, prefixDefer := false, nmiPending := false, intPending := false }

/-- Memory and mapper of the state `State.reset`: kind None, an image of 48 KiB of zeros, 8 KiB of RAM of zeros: the start state of
95_test_vectors, Conventions (log entries 2 and 3). -/
def Store.reset : Store :=
  { rom := [], romLen := 49152, ram := [], ramSize := 8192, cart := [], mapper := .noMapper }

/-- The registry after `configure` (10_state R50), EXEC Running (log entry 4). -/
def Debug.reset : Debug :=
  { pcBps := [], msgBps := [], msgs := [], execState := .running, cmdQ := [], skipBp := false,
    msgHit := none, reports := [] }

/-- The parameters of the state `State.reset` (log entry 4). -/
def Params.reset : Params :=
  { busByte := 0xFF, msgCapacity := 16, logUndefined := false, logRomWrites := false, disasmCount := 1,
    matcher := .substring }

/-- The machine after `configure` and `reset` (10_state R50; 70_reset_and_hazards R480, R481), with the choices of log entries 1 to 6. -/
def State.reset : State :=
  { main := Bank.zero, alt := Bank.zero, ix := 0, iy := 0, sp := 0, pc := 0, i := 0, r := 0,
    ctl := Ctl.reset, store := Store.reset, cycles := 0, plane := Debug.reset, refused := false,
    params := Params.reset, io := { answers := [], trace := [] }, draws := 0 }

end Sys2Proof.Machine
end

