-- ==== Sys2Proof/Machine/Ops.lean ====
section
/-! DEFINITION. The named operations over registers, memory, messages and I/O (00_scope R11; 20_memory; 47_io R350, R351), taking an
interrupt and returning from one (60_exceptions R423 to R428, R430). -/

namespace Sys2Proof.Machine

/-- What an instruction or an acceptance answers. -/
abbrev Result := Host.Outcome State Fault Refusal

/-- Go on with f in the next state; a fault or a refusal stays. -/
def andThen (x : Result) (f : State → Result) : Result :=
  match x with
  | .next s => f s
  | .fault e => .fault e
  | .refused e => .refused e

/-! Byte memories -/

/-- The byte at an offset; an unlisted offset reads 0x00 (log entry 2). -/
def Memory.read : Memory → Nat → Byte
  | [], _ => 0
  | (k, v) :: m, a => if a = k then v else Memory.read m a

/-- Take an offset out of the list. -/
def Memory.erase (m : Memory) (a : Nat) : Memory :=
  m.filter fun cell => cell.1 != a

/-- List a byte at its place, instead of what stood there. -/
def Memory.insert : Memory → Nat → Byte → Memory
  | [], a, v => [(a, v)]
  | (k, w) :: m, a, v =>
    if a < k then (a, v) :: (k, w) :: m
    else if a = k then (a, v) :: m
    else (k, w) :: Memory.insert m a v

/-- Write a byte; writing what an unlisted offset reads takes the entry out. -/
def Memory.write (m : Memory) (a : Nat) (v : Byte) : Memory :=
  if v = 0 then Memory.erase m a else Memory.insert m a v

/-- Offsets at least k, strictly rising, and no byte 0x00 listed. -/
def Memory.wfFrom : Nat → Memory → Bool
  | _, [] => true
  | k, (a, v) :: m => decide (k ≤ a) && v != 0 && Memory.wfFrom (a + 1) m

/-- The canonical form: offsets strictly rising, and no byte 0x00 listed. -/
def Memory.wf (m : Memory) : Bool := Memory.wfFrom 0 m

/-- Every listed offset is below n. -/
def Memory.below (m : Memory) (n : Nat) : Bool :=
  m.all fun cell => decide (cell.1 < n)

/-- The memory that holds the given bytes from offset k on. -/
def Memory.ofBytes : Nat → List Byte → Memory
  | _, [] => []
  | k, v :: vs => if v = 0 then Memory.ofBytes (k + 1) vs else (k, v) :: Memory.ofBytes (k + 1) vs

/-! Translation (20_memory R70 to R97) -/

/-- Where an address leads (R70). -/
inductive Loc where
  | rom (off : Nat)
  | ram (off : Nat)
  | cart (off : Nat)
  | unmapped (addr : Word)
  deriving DecidableEq, Repr

/-- RAM and cartridge RAM can be written; the rest is ROM-backed (R71). -/
def Loc.writable : Loc → Bool
  | .ram _ | .cart _ => true
  | .rom _ | .unmapped _ => false

/-- The image offset of byte off of ROM page `p mod P` (R73). -/
def Store.page (st : Store) (p : Byte) (off : Nat) : Nat :=
  p.toNat % (st.romLen / Config.pageSize) * Config.pageSize + off

/-- The read map of the Standard mapper below 0xC000 (R81). -/
def Store.locateStandard (st : Store) (g : StandardRegs) (a : Nat) : Loc :=
  if a < 0x0400 then .rom a
  else if a < 0x4000 then .rom (st.page g.bank0 a)
  else if a < 0x8000 then .rom (st.page g.bank1 (a - 0x4000))
  else if g.ramctl.getLsbD 3 then
    .cart ((if g.ramctl.getLsbD 2 then Config.pageSize else 0) + (a - 0x8000))
  else .rom (st.page g.bank2 (a - 0x8000))

/-- The read map of the CodeMasters mapper below 0xC000 (R91). -/
def Store.locateCodeMasters (st : Store) (g : CodeMastersRegs) (a : Nat) : Loc :=
  if a < 0x4000 then .rom (st.page g.cm0 a)
  else if a < 0x8000 then .rom (st.page g.cm1 (a - 0x4000))
  else .rom (st.page g.cm2 (a - 0x8000))

/-- The read map of the kinds SG1000 and None below 0xC000 (R96). -/
def Store.locateLinear (st : Store) (addr : Word) : Loc :=
  if addr.toNat < st.romLen then .rom addr.toNat else .unmapped addr

/-- The read map (R70): exactly one location for every address. 0xC000 to 0xFFFF is system RAM, mirrored (R75). -/
def Store.locate (st : Store) (addr : Word) : Loc :=
  if 0xC000 ≤ addr.toNat then .ram ((addr.toNat - 0xC000) % st.ramSize)
  else match st.mapper with
    | .standard g => st.locateStandard g addr.toNat
    | .codeMasters g => st.locateCodeMasters g addr.toNat
    | .sg1000 => st.locateLinear addr
    | .noMapper => st.locateLinear addr

/-- The byte at a location (R70). -/
def Store.readLoc (st : Store) : Loc → Byte
  | .rom off => Memory.read st.rom off
  | .ram off => Memory.read st.ram off
  | .cart off => Memory.read st.cart off
  | .unmapped addr => Config.unmappedRead addr

/-- `MemRead(addr, 1)` (R70). -/
def Store.read (st : Store) (addr : Word) : Byte :=
  st.readLoc (st.locate addr)

/-- Store a byte at a RAM location; the other locations keep what they hold (R71). -/
def Store.writeLoc (st : Store) (loc : Loc) (v : Byte) : Store :=
  match loc with
  | .ram off => { st with ram := Memory.write st.ram off v }
  | .cart off => { st with cart := Memory.write st.cart off v }
  | .rom _ => st
  | .unmapped _ => st

/-- The registers after a write to a control address, if the address is one (R82, R92, R97). -/
def Mapper.control (m : Mapper) (addr : Word) (v : Byte) : Option Mapper :=
  match m with
  | .standard g =>
    if addr = 0xFFFC then some (.standard { g with ramctl := v })
    else if addr = 0xFFFD then some (.standard { g with bank0 := v })
    else if addr = 0xFFFE then some (.standard { g with bank1 := v })
    else if addr = 0xFFFF then some (.standard { g with bank2 := v })
    else none
  | .codeMasters g =>
    if addr = 0x0000 then some (.codeMasters { g with cm0 := v })
    else if addr = 0x4000 then some (.codeMasters { g with cm1 := v })
    else if addr = 0x8000 then some (.codeMasters { g with cm2 := v })
    else none
  | .sg1000 => none
  | .noMapper => none

/-- The control writes the spec refuses (R83, R93). -/
def Mapper.refuses (m : Mapper) (addr : Word) (v : Byte) : Bool :=
  match m with
  | .standard _ => addr == 0xFFFC && (v.getLsbD 0 || v.getLsbD 1 || v.getLsbD 4)
  | .codeMasters _ => addr == 0x4000 && v.getLsbD 7
  | .sg1000 => false
  | .noMapper => false

/-- The store after a write that is not refused: the byte, if it lands in RAM, and the register, if the address is a control address
(R71, R72). -/
def Store.write (st : Store) (addr : Word) (v : Byte) : Store :=
  { st.writeLoc (st.locate addr) v with mapper := (st.mapper.control addr v).getD st.mapper }

/-- A write that changes nothing (R71): it lands in no RAM byte and at no control address. -/
def Store.ignoresWrite (st : Store) (addr : Word) (v : Byte) : Bool :=
  !(st.locate addr).writable && (st.mapper.control addr v).isNone

/-! One writer for each part of the state -/

/-- Write the main register set. -/
def State.setMain (s : State) (k : Bank) : State := { s with main := k }

/-- Write the alternate register set. -/
def State.setAlt (s : State) (k : Bank) : State := { s with alt := k }

/-- Write IX. -/
def State.setIx (s : State) (w : Word) : State := { s with ix := w }

/-- Write IY. -/
def State.setIy (s : State) (w : Word) : State := { s with iy := w }

/-- Write SP. -/
def State.setSp (s : State) (w : Word) : State := { s with sp := w }

/-- Write PC. -/
def State.setPc (s : State) (w : Word) : State := { s with pc := w }

/-- Write I. -/
def State.setI (s : State) (v : Byte) : State := { s with i := v }

/-- Write R, all eight bits. -/
def State.setR (s : State) (v : Byte) : State := { s with r := v }

/-- Write the interrupt and halt bits. -/
def State.setCtl (s : State) (k : Ctl) : State := { s with ctl := k }

/-- Write memory and mapper. -/
def State.setStore (s : State) (st : Store) : State := { s with store := st }

/-- Write CYCLES. -/
def State.setCycles (s : State) (n : Nat) : State := { s with cycles := n }

/-- Write the registry and the debug control state. -/
def State.setDebug (s : State) (g : Debug) : State := { s with plane := g }

/-- Write REFUSED. -/
def State.setRefused (s : State) (b : Bool) : State := { s with refused := b }

/-- Write the I/O sequences. -/
def State.setIo (s : State) (io : Io) : State := { s with io := io }

/-- Write the counter of free values. -/
def State.setDraws (s : State) (n : Nat) : State := { s with draws := n }

/-! Time, fetching, free values -/

/-- Add T-states to CYCLES (10_state R44, 60_exceptions R420). -/
def State.spend (s : State) (t : Nat) : State := s.setCycles (s.cycles + t)

/-- The instruction or acceptance is complete and took t T-states. -/
def done (t : Nat) (s : State) : Result := .next (s.spend t)

/-- R after k M1 cycles: bits 6:0 count modulo 128, bit 7 stays (10_state R33). -/
def bumpR (k : Nat) (r : Byte) : Byte :=
  r.extractLsb' 7 1 ++ (r.extractLsb' 0 7 + BitVec.ofNat 7 k)

/-- The bytes of an instruction have been fetched: PC is past its len bytes (R31) and R has counted its M1 cycles (R33). -/
def State.fetch (s : State) (len m1 : Nat) : State :=
  (s.setPc (s.pc + BitVec.ofNat 16 len)).setR (bumpR m1 s.r)

/-- The next free byte (log entry 5). -/
def State.freeByte (s : State) : Byte := Config.freeByte s.draws

/-- One free value has been drawn. -/
def State.drawn (s : State) : State := s.setDraws (s.draws + 1)

/-! Messages (60_exceptions R441, R444) -/

/-- `startsWith p t`: the characters p begin the characters t. -/
def startsWith : List Char → List Char → Bool
  | [], _ => true
  | _ :: _, [] => false
  | p :: ps, t :: ts => p == t && startsWith ps ts

/-- `infixOf p t`: the characters p occur somewhere in t, one after the other. -/
def infixOf (p : List Char) : List Char → Bool
  | [] => startsWith p []
  | t :: ts => startsWith p (t :: ts) || infixOf p ts

/-- p is a contiguous substring of t; the empty pattern is one of every text (R444, D23). -/
def isSubstring (p t : Text) : Bool := infixOf p.toList t.toList

/-- `msg_match(p, t)`: the parameter of 00_scope R8, by default the substring match of R444 (log entry 8). -/
def msgMatch (m : Matcher) (p t : Text) : Bool :=
  match m with
  | .substring => isSubstring p t
  | .plugged => Config.pluggedMatch p t

/-- `check_message(text)` with the configured matcher (R444). -/
def Debug.checkMessage (g : Debug) (m : Matcher) (t : Text) : Bool := g.msgBps.any fun p => msgMatch m p t

/-- Append to a ring buffer of n entries: a full one drops its oldest entry first (10_state R46). -/
def ringAppend (n : Nat) (ts : List Text) (t : Text) : List Text :=
  (if n ≤ ts.length then ts.drop 1 else ts) ++ [t]

/-- `emit(kind, info)` (R441): the text goes into MSGS, and the step is marked with the first text a message breakpoint matches. -/
def State.emit (s : State) (ev : MsgEvent) : State :=
  let t := Config.msgText ev
  s.setDebug { s.plane with
    msgs := ringAppend s.params.msgCapacity s.plane.msgs t
    msgHit := s.plane.msgHit.or (if s.plane.checkMessage s.params.matcher t then some t else none) }

/-- Emit only when the parameter says so (R442). -/
def State.emitIf (s : State) (on : Bool) (ev : MsgEvent) : State := if on then s.emit ev else s

/-! Memory accesses (00_scope R11, 20_memory R63, R67) -/

/-- `MemRead(addr, 1)`. -/
def State.read8 (s : State) (addr : Word) : Byte := s.store.read addr

/-- `MemRead(addr, 2)`: the low byte at addr, the high byte at addr + 1 modulo 2^16. -/
def State.read16 (s : State) (addr : Word) : Word := join (s.read8 (addr + 1)) (s.read8 addr)

/-- The state after `MemWrite(addr, 1, v)` where the write is not refused: the store changes, or the write is ignored and may be reported
(20_memory R71, R82, R92, R97). -/
def State.wrote (s : State) (addr : Word) (v : Byte) : State :=
  (s.setStore (s.store.write addr v)).emitIf
    (s.params.logRomWrites && s.store.ignoresWrite addr v) (.romWrite addr v)

/-- `MemWrite(addr, 1, v)` (R71; refused: R83, R93). -/
def State.write8 (s : State) (addr : Word) (v : Byte) : Result :=
  if s.store.mapper.refuses addr v then .refused .unmodelledMapperControl else .next (s.wrote addr v)

/-- `MemWrite(addr, 2, v)`: the low byte first; the second write sees the mapping the first left (R72). -/
def State.write16 (s : State) (addr : Word) (v : Word) : Result :=
  andThen (s.write8 addr (lo v)) fun s1 => s1.write8 (addr + 1) (hi v)

/-- `Push16(v)`: the high byte at SP - 1 first, then the low byte at SP - 2. -/
def State.push16 (s : State) (v : Word) : Result :=
  andThen ((s.setSp (s.sp - 1)).write8 (s.sp - 1) (hi v)) fun s1 =>
    (s1.setSp (s1.sp - 1)).write8 (s1.sp - 1) (lo v)

/-- The word `Pop16()` returns. -/
def State.top16 (s : State) : Word := s.read16 s.sp

/-- The state `Pop16()` leaves: SP + 2. -/
def State.popped (s : State) : State := s.setSp (s.sp + 2)

/-! The I/O space (47_io R350, R351) -/

/-- The byte `IoRead(port)` returns: the host's next answer, or a free byte when none is lined up (log entry 6). -/
def State.ioAnswer (s : State) (port : Word) : Byte :=
  match s.io.answers with
  | v :: _ => v
  | [] => Config.ioAnswer port s.draws

/-- The state after `IoRead(port)`: the answer is used up and the access recorded. -/
def State.ioReadDone (s : State) (port : Word) : State :=
  (s.setIo { answers := s.io.answers.drop 1, trace := s.io.trace ++ [.read port (s.ioAnswer port)] }).drawn

/-- `IoWrite(port, v)`: the pair is handed to the host. -/
def State.ioWrite (s : State) (port : Word) (v : Byte) : State :=
  s.setIo { s.io with trace := s.io.trace ++ [.write port v] }

/-! Interrupts (60_exceptions R423 to R428, R430) -/

/-- Entry into a handler, the part common to every acceptance: the interrupt bits become k, one M1 cycle, the address of the next
instruction is pushed, PC takes the vector (asked of the state after the push), t T-states (R423, R424). -/
def State.enterHandler (s : State) (k : Ctl) (vector : State → Word) (t : Nat) : Result :=
  andThen (((s.setCtl k).setR (bumpR 1 s.r)).push16 s.pc) fun s1 => done t (s1.setPc (vector s1))

/-- `AcceptNMI()` (R423). -/
def State.acceptNmi (s : State) : Result :=
  s.enterHandler { s.ctl with nmiPending := false, halted := false, iff2 := s.ctl.iff1, iff1 := false }
    (fun _ => 0x0066) 11

/-- The interrupt bits after `AcceptINT()` (R424). -/
def Ctl.intTaken (k : Ctl) : Ctl :=
  { k with intPending := false, halted := false, iff1 := false, iff2 := false }

/-- The RST bytes: `bus_byte & 0xC7 = 0xC7` (R426). -/
def isRst (v : Byte) : Bool := v &&& 0xC7 == 0xC7

/-- `AcceptINT()` by the mode: R426 (0), R427 (1), R425 (2). -/
def State.acceptInt (s : State) : Result :=
  match s.ctl.im with
  | .mode0 =>
    if isRst s.params.busByte then
      s.enterHandler s.ctl.intTaken (fun _ => (s.params.busByte &&& 0x38).setWidth 16) 13
    else .refused .unmodelledIm0Instruction
  | .mode1 => s.enterHandler s.ctl.intTaken (fun _ => 0x0038) 13
  | .mode2 => s.enterHandler s.ctl.intTaken (fun s1 => s1.read16 (join s1.i s1.params.busByte)) 19

/-- `HaltedIdle()` (R428). -/
def State.haltedIdle (s : State) : Result := done 4 (s.setR (bumpR 1 s.r))

/-- The return from a handler: PC from the stack and IFF1 from IFF2 (R430; 46_control_transfer R331, R332). -/
def State.returnFromHandler (s : State) : State :=
  (s.popped.setPc s.top16).setCtl { s.ctl with iff1 := s.ctl.iff2 }

end Sys2Proof.Machine
end

