-- ==== Sys2Proof/Machine/Disasm.lean ====
section
/-! DEFINITION. The text of an instruction (30_encoding R133, R134) and the disassembler (60_exceptions R461), which uses the one decoder
(30_encoding R135). -/

namespace Sys2Proof

/-! Numbers -/

/-- One upper-case hexadecimal digit. -/
def hexDigit : Nat → Text
  | 0 => "0"
  | 1 => "1"
  | 2 => "2"
  | 3 => "3"
  | 4 => "4"
  | 5 => "5"
  | 6 => "6"
  | 7 => "7"
  | 8 => "8"
  | 9 => "9"
  | 10 => "A"
  | 11 => "B"
  | 12 => "C"
  | 13 => "D"
  | 14 => "E"
  | _ => "F"

/-- The two digits of a byte. -/
def hexDigits (v : Byte) : Text := hexDigit (v.toNat / 16) ++ hexDigit (v.toNat % 16)

/-- A byte immediate or an RST target: `$hh` (R134). -/
def hex8 (v : Byte) : Text := "$" ++ hexDigits v

/-- A word immediate or a jump target: `$hhhh` (R134). -/
def hex16 (w : Word) : Text := "$" ++ hexDigits (hi w) ++ hexDigits (lo w)

/-- A number below 1000 in decimal. -/
def decimal (n : Nat) : Text :=
  if n < 10 then hexDigit n
  else if n < 100 then hexDigit (n / 10) ++ hexDigit (n % 10)
  else hexDigit (n / 100) ++ hexDigit (n / 10 % 10) ++ hexDigit (n % 10)

/-- `(IX+5)`, `(IY-128)`: the displacement as a signed decimal (R134). -/
def disp (x : Text) (d : Byte) : Text :=
  if d.getLsbD 7 then "(" ++ x ++ "-" ++ decimal (256 - d.toNat) ++ ")" else "(" ++ x ++ "+" ++ decimal d.toNat ++ ")"

/-! Operands: the spellings of R133; x is the name of the index register -/

/-- The spelling of an 8-bit register. -/
def Reg8.text : Reg8 → Text
  | .b => "B"
  | .c => "C"
  | .d => "D"
  | .e => "E"
  | .h => "H"
  | .l => "L"
  | .a => "A"

/-- The spelling of an 8-bit operand under a prefix. -/
def RegX.text (x : Text) : RegX → Text
  | .b => "B"
  | .c => "C"
  | .d => "D"
  | .e => "E"
  | .xh => x ++ "H"
  | .xl => x ++ "L"
  | .a => "A"

/-- The spelling of a half of an index register. -/
def Half.text (x : Text) : Half → Text
  | .hi => x ++ "H"
  | .lo => x ++ "L"

/-- The spelling of a pair of the table rp. -/
def Pair.text : Pair → Text
  | .bc => "BC"
  | .de => "DE"
  | .hl => "HL"
  | .sp => "SP"

/-- The spelling of a pair of the table rp2. -/
def PairQ.text : PairQ → Text
  | .bc => "BC"
  | .de => "DE"
  | .hl => "HL"
  | .af => "AF"

/-- The spelling of a pair of the table pp. -/
def PairX.text (x : Text) : PairX → Text
  | .bc => "BC"
  | .de => "DE"
  | .xy => x
  | .sp => "SP"

/-- The spelling of a condition. -/
def Cond.text : Cond → Text
  | .nz => "NZ"
  | .z => "Z"
  | .nc => "NC"
  | .c => "C"
  | .po => "PO"
  | .pe => "PE"
  | .p => "P"
  | .m => "M"

/-! Instructions -/

/-- The text of a row that stands for itself; `next` is the address of the next instruction, from which JR and DJNZ count (R128, R134).
The prefix rows and the ignored prefix have their text in `Instr.text`. -/
def Instr.rowText (next : Word) : Instr → Text
  | .nop => "NOP"
  | .exAfAf => "EX AF,AF'"
  | .djnz e => "DJNZ " ++ hex16 (next + sext e)
  | .jr e => "JR " ++ hex16 (next + sext e)
  | .jrCc cc e => "JR " ++ cc.text ++ "," ++ hex16 (next + sext e)
  | .ldDdNn dd nn => "LD " ++ dd.text ++ "," ++ hex16 nn
  | .addHlSs ss => "ADD HL," ++ ss.text
  | .ldAtBcA => "LD (BC),A"
  | .ldAtDeA => "LD (DE),A"
  | .ldAtNnHl nn => "LD (" ++ hex16 nn ++ "),HL"
  | .ldAtNnA nn => "LD (" ++ hex16 nn ++ "),A"
  | .ldAAtBc => "LD A,(BC)"
  | .ldAAtDe => "LD A,(DE)"
  | .ldHlAtNn nn => "LD HL,(" ++ hex16 nn ++ ")"
  | .ldAAtNn nn => "LD A,(" ++ hex16 nn ++ ")"
  | .incSs ss => "INC " ++ ss.text
  | .decSs ss => "DEC " ++ ss.text
  | .incR r => "INC " ++ r.text
  | .incAtHl => "INC (HL)"
  | .decR r => "DEC " ++ r.text
  | .decAtHl => "DEC (HL)"
  | .ldRN r n => "LD " ++ r.text ++ "," ++ hex8 n
  | .ldAtHlN n => "LD (HL)," ++ hex8 n
  | .rlca => "RLCA"
  | .rrca => "RRCA"
  | .rla => "RLA"
  | .rra => "RRA"
  | .daa => "DAA"
  | .cpl => "CPL"
  | .scf => "SCF"
  | .ccf => "CCF"
  | .ldRR r r2 => "LD " ++ r.text ++ "," ++ r2.text
  | .ldRAtHl r => "LD " ++ r.text ++ ",(HL)"
  | .ldAtHlR r => "LD (HL)," ++ r.text
  | .halt => "HALT"
  | .addR r => "ADD A," ++ r.text
  | .addAtHl => "ADD A,(HL)"
  | .addN n => "ADD A," ++ hex8 n
  | .adcR r => "ADC A," ++ r.text
  | .adcAtHl => "ADC A,(HL)"
  | .adcN n => "ADC A," ++ hex8 n
  | .subR r => "SUB " ++ r.text
  | .subAtHl => "SUB (HL)"
  | .subN n => "SUB " ++ hex8 n
  | .sbcR r => "SBC A," ++ r.text
  | .sbcAtHl => "SBC A,(HL)"
  | .sbcN n => "SBC A," ++ hex8 n
  | .andR r => "AND " ++ r.text
  | .andAtHl => "AND (HL)"
  | .andN n => "AND " ++ hex8 n
  | .xorR r => "XOR " ++ r.text
  | .xorAtHl => "XOR (HL)"
  | .xorN n => "XOR " ++ hex8 n
  | .orR r => "OR " ++ r.text
  | .orAtHl => "OR (HL)"
  | .orN n => "OR " ++ hex8 n
  | .cpR r => "CP " ++ r.text
  | .cpAtHl => "CP (HL)"
  | .cpN n => "CP " ++ hex8 n
  | .retCc cc => "RET " ++ cc.text
  | .popQq qq => "POP " ++ qq.text
  | .ret => "RET"
  | .exx => "EXX"
  | .jpHl => "JP (HL)"
  | .ldSpHl => "LD SP,HL"
  | .jpCcNn cc nn => "JP " ++ cc.text ++ "," ++ hex16 nn
  | .jpNn nn => "JP " ++ hex16 nn
  | .outNA n => "OUT (" ++ hex8 n ++ "),A"
  | .inAN n => "IN A,(" ++ hex8 n ++ ")"
  | .exAtSpHl => "EX (SP),HL"
  | .exDeHl => "EX DE,HL"
  | .di => "DI"
  | .ei => "EI"
  | .callCcNn cc nn => "CALL " ++ cc.text ++ "," ++ hex16 nn
  | .pushQq qq => "PUSH " ++ qq.text
  | .callNn nn => "CALL " ++ hex16 nn
  | .rst p => "RST " ++ hex8 (BitVec.ofNat 8 (8 * p.toNat))
  | .rlcR r => "RLC " ++ r.text
  | .rlcAtHl => "RLC (HL)"
  | .rrcR r => "RRC " ++ r.text
  | .rrcAtHl => "RRC (HL)"
  | .rlR r => "RL " ++ r.text
  | .rlAtHl => "RL (HL)"
  | .rrR r => "RR " ++ r.text
  | .rrAtHl => "RR (HL)"
  | .slaR r => "SLA " ++ r.text
  | .slaAtHl => "SLA (HL)"
  | .sraR r => "SRA " ++ r.text
  | .sraAtHl => "SRA (HL)"
  | .sllR r => "SLL " ++ r.text
  | .sllAtHl => "SLL (HL)"
  | .srlR r => "SRL " ++ r.text
  | .srlAtHl => "SRL (HL)"
  | .bitR b r => "BIT " ++ decimal b.toNat ++ "," ++ r.text
  | .bitAtHl b => "BIT " ++ decimal b.toNat ++ ",(HL)"
  | .resR b r => "RES " ++ decimal b.toNat ++ "," ++ r.text
  | .resAtHl b => "RES " ++ decimal b.toNat ++ ",(HL)"
  | .setR b r => "SET " ++ decimal b.toNat ++ "," ++ r.text
  | .setAtHl b => "SET " ++ decimal b.toNat ++ ",(HL)"
  | .inR r => "IN " ++ r.text ++ ",(C)"
  | .inFlags => "IN (C)"
  | .outR r => "OUT (C)," ++ r.text
  | .outZero => "OUT (C),0"
  | .sbcHlSs ss => "SBC HL," ++ ss.text
  | .adcHlSs ss => "ADC HL," ++ ss.text
  | .ldAtNnDd nn dd => "LD (" ++ hex16 nn ++ ")," ++ dd.text
  | .ldDdAtNn dd nn => "LD " ++ dd.text ++ ",(" ++ hex16 nn ++ ")"
  | .neg _ => "NEG"
  | .retn _ => "RETN"
  | .reti => "RETI"
  | .im0 _ => "IM 0"
  | .im1 _ => "IM 1"
  | .im2 _ => "IM 2"
  | .ldIA => "LD I,A"
  | .ldRA => "LD R,A"
  | .ldAI => "LD A,I"
  | .ldAR => "LD A,R"
  | .rrd => "RRD"
  | .rld => "RLD"
  | .ldi => "LDI"
  | .cpi => "CPI"
  | .ini => "INI"
  | .outi => "OUTI"
  | .ldd => "LDD"
  | .cpd => "CPD"
  | .ind => "IND"
  | .outd => "OUTD"
  | .ldir => "LDIR"
  | .cpir => "CPIR"
  | .inir => "INIR"
  | .otir => "OTIR"
  | .lddr => "LDDR"
  | .cpdr => "CPDR"
  | .indr => "INDR"
  | .otdr => "OTDR"
  | .nopEd0 _ => "NOP*"
  | .nopEd3 _ => "NOP*"
  | .nopEd7 _ => "NOP*"
  | .nopEd2 _ => "NOP*"
  | .ldIxNn nn => "LD IX," ++ hex16 nn
  | .ldAtNnIx nn => "LD (" ++ hex16 nn ++ "),IX"
  | .incIx => "INC IX"
  | .ldIxAtNn nn => "LD IX,(" ++ hex16 nn ++ ")"
  | .decIx => "DEC IX"
  | .addIxPp pp => "ADD IX," ++ pp.text "IX"
  | .incIxHalf x => "INC " ++ x.text "IX"
  | .decIxHalf x => "DEC " ++ x.text "IX"
  | .ldIxHalfN x n => "LD " ++ x.text "IX" ++ "," ++ hex8 n
  | .incAtIx d => "INC " ++ disp "IX" d
  | .decAtIx d => "DEC " ++ disp "IX" d
  | .ldAtIxN d n => "LD " ++ disp "IX" d ++ "," ++ hex8 n
  | .ldRAtIx r d => "LD " ++ r.text ++ "," ++ disp "IX" d
  | .ldAtIxR d r => "LD " ++ disp "IX" d ++ "," ++ r.text
  | .ldRRIx r r2 => "LD " ++ r.text "IX" ++ "," ++ r2.text "IX"
  | .addIxHalf x => "ADD A," ++ x.text "IX"
  | .addAtIx d => "ADD A," ++ disp "IX" d
  | .adcIxHalf x => "ADC A," ++ x.text "IX"
  | .adcAtIx d => "ADC A," ++ disp "IX" d
  | .subIxHalf x => "SUB " ++ x.text "IX"
  | .subAtIx d => "SUB " ++ disp "IX" d
  | .sbcIxHalf x => "SBC A," ++ x.text "IX"
  | .sbcAtIx d => "SBC A," ++ disp "IX" d
  | .andIxHalf x => "AND " ++ x.text "IX"
  | .andAtIx d => "AND " ++ disp "IX" d
  | .xorIxHalf x => "XOR " ++ x.text "IX"
  | .xorAtIx d => "XOR " ++ disp "IX" d
  | .orIxHalf x => "OR " ++ x.text "IX"
  | .orAtIx d => "OR " ++ disp "IX" d
  | .cpIxHalf x => "CP " ++ x.text "IX"
  | .cpAtIx d => "CP " ++ disp "IX" d
  | .popIx => "POP IX"
  | .exAtSpIx => "EX (SP),IX"
  | .pushIx => "PUSH IX"
  | .jpIx => "JP (IX)"
  | .ldSpIx => "LD SP,IX"
  | .loneDd => "NOP*"
  | .rlcAtIx d => "RLC " ++ disp "IX" d
  | .rlcAtIxR d r => "RLC " ++ disp "IX" d ++ "," ++ r.text
  | .rrcAtIx d => "RRC " ++ disp "IX" d
  | .rrcAtIxR d r => "RRC " ++ disp "IX" d ++ "," ++ r.text
  | .rlAtIx d => "RL " ++ disp "IX" d
  | .rlAtIxR d r => "RL " ++ disp "IX" d ++ "," ++ r.text
  | .rrAtIx d => "RR " ++ disp "IX" d
  | .rrAtIxR d r => "RR " ++ disp "IX" d ++ "," ++ r.text
  | .slaAtIx d => "SLA " ++ disp "IX" d
  | .slaAtIxR d r => "SLA " ++ disp "IX" d ++ "," ++ r.text
  | .sraAtIx d => "SRA " ++ disp "IX" d
  | .sraAtIxR d r => "SRA " ++ disp "IX" d ++ "," ++ r.text
  | .sllAtIx d => "SLL " ++ disp "IX" d
  | .sllAtIxR d r => "SLL " ++ disp "IX" d ++ "," ++ r.text
  | .srlAtIx d => "SRL " ++ disp "IX" d
  | .srlAtIxR d r => "SRL " ++ disp "IX" d ++ "," ++ r.text
  | .bitAtIx b d _ => "BIT " ++ decimal b.toNat ++ "," ++ disp "IX" d
  | .resAtIx b d => "RES " ++ decimal b.toNat ++ "," ++ disp "IX" d
  | .resAtIxR b d r => "RES " ++ decimal b.toNat ++ "," ++ disp "IX" d ++ "," ++ r.text
  | .setAtIx b d => "SET " ++ decimal b.toNat ++ "," ++ disp "IX" d
  | .setAtIxR b d r => "SET " ++ decimal b.toNat ++ "," ++ disp "IX" d ++ "," ++ r.text
  | .ldIyNn nn => "LD IY," ++ hex16 nn
  | .ldAtNnIy nn => "LD (" ++ hex16 nn ++ "),IY"
  | .incIy => "INC IY"
  | .ldIyAtNn nn => "LD IY,(" ++ hex16 nn ++ ")"
  | .decIy => "DEC IY"
  | .addIyPp pp => "ADD IY," ++ pp.text "IY"
  | .incIyHalf x => "INC " ++ x.text "IY"
  | .decIyHalf x => "DEC " ++ x.text "IY"
  | .ldIyHalfN x n => "LD " ++ x.text "IY" ++ "," ++ hex8 n
  | .incAtIy d => "INC " ++ disp "IY" d
  | .decAtIy d => "DEC " ++ disp "IY" d
  | .ldAtIyN d n => "LD " ++ disp "IY" d ++ "," ++ hex8 n
  | .ldRAtIy r d => "LD " ++ r.text ++ "," ++ disp "IY" d
  | .ldAtIyR d r => "LD " ++ disp "IY" d ++ "," ++ r.text
  | .ldRRIy r r2 => "LD " ++ r.text "IY" ++ "," ++ r2.text "IY"
  | .addIyHalf x => "ADD A," ++ x.text "IY"
  | .addAtIy d => "ADD A," ++ disp "IY" d
  | .adcIyHalf x => "ADC A," ++ x.text "IY"
  | .adcAtIy d => "ADC A," ++ disp "IY" d
  | .subIyHalf x => "SUB " ++ x.text "IY"
  | .subAtIy d => "SUB " ++ disp "IY" d
  | .sbcIyHalf x => "SBC A," ++ x.text "IY"
  | .sbcAtIy d => "SBC A," ++ disp "IY" d
  | .andIyHalf x => "AND " ++ x.text "IY"
  | .andAtIy d => "AND " ++ disp "IY" d
  | .xorIyHalf x => "XOR " ++ x.text "IY"
  | .xorAtIy d => "XOR " ++ disp "IY" d
  | .orIyHalf x => "OR " ++ x.text "IY"
  | .orAtIy d => "OR " ++ disp "IY" d
  | .cpIyHalf x => "CP " ++ x.text "IY"
  | .cpAtIy d => "CP " ++ disp "IY" d
  | .popIy => "POP IY"
  | .exAtSpIy => "EX (SP),IY"
  | .pushIy => "PUSH IY"
  | .jpIy => "JP (IY)"
  | .ldSpIy => "LD SP,IY"
  | .loneFd => "NOP*"
  | .rlcAtIy d => "RLC " ++ disp "IY" d
  | .rlcAtIyR d r => "RLC " ++ disp "IY" d ++ "," ++ r.text
  | .rrcAtIy d => "RRC " ++ disp "IY" d
  | .rrcAtIyR d r => "RRC " ++ disp "IY" d ++ "," ++ r.text
  | .rlAtIy d => "RL " ++ disp "IY" d
  | .rlAtIyR d r => "RL " ++ disp "IY" d ++ "," ++ r.text
  | .rrAtIy d => "RR " ++ disp "IY" d
  | .rrAtIyR d r => "RR " ++ disp "IY" d ++ "," ++ r.text
  | .slaAtIy d => "SLA " ++ disp "IY" d
  | .slaAtIyR d r => "SLA " ++ disp "IY" d ++ "," ++ r.text
  | .sraAtIy d => "SRA " ++ disp "IY" d
  | .sraAtIyR d r => "SRA " ++ disp "IY" d ++ "," ++ r.text
  | .sllAtIy d => "SLL " ++ disp "IY" d
  | .sllAtIyR d r => "SLL " ++ disp "IY" d ++ "," ++ r.text
  | .srlAtIy d => "SRL " ++ disp "IY" d
  | .srlAtIyR d r => "SRL " ++ disp "IY" d ++ "," ++ r.text
  | .bitAtIy b d _ => "BIT " ++ decimal b.toNat ++ "," ++ disp "IY" d
  | .resAtIy b d => "RES " ++ decimal b.toNat ++ "," ++ disp "IY" d
  | .resAtIyR b d r => "RES " ++ decimal b.toNat ++ "," ++ disp "IY" d ++ "," ++ r.text
  | .setAtIy b d => "SET " ++ decimal b.toNat ++ "," ++ disp "IY" d
  | .setAtIyR b d r => "SET " ++ decimal b.toNat ++ "," ++ disp "IY" d ++ "," ++ r.text
  | .prefixCb _ => ""
  | .prefixDd _ _ _ => ""
  | .prefixEd _ _ _ => ""
  | .prefixFd _ _ _ => ""
  | .prefixDdCb _ _ => ""
  | .ignoredDd _ => ""
  | .prefixFdCb _ _ => ""
  | .ignoredFd _ => ""

/-- The text of a row that a table selects: an ignored prefix is spelled as the instruction behind it (R134). -/
def Instr.selectedText (next : Word) : Instr → Text
  | .ignoredDd base => base.rowText next
  | .ignoredFd base => base.rowText next
  | i => i.rowText next

/-- The text of an instruction (R134); a prefix row is spelled as the row its bytes select. -/
def Instr.text (next : Word) : Instr → Text
  | .prefixCb op => (decodeCb op).selectedText next
  | .prefixDd b1 b2 b3 => (decodeXy .ix b1 b2 b3).selectedText next
  | .prefixEd b1 b2 b3 => (decodeEd b1 b2 b3).selectedText next
  | .prefixFd b1 b2 b3 => (decodeXy .iy b1 b2 b3).selectedText next
  | .prefixDdCb d op => (decodeXyCb .ix d op).selectedText next
  | .prefixFdCb d op => (decodeXyCb .iy d op).selectedText next
  | i => i.selectedText next

end Sys2Proof

namespace Sys2Proof.Machine

/-- The instruction at an address, through the current mapping (30_encoding R118, R136; 20_memory R69). -/
def State.instrAt (s : State) (a : Word) : Instr :=
  decode4 (s.read8 a) (s.read8 (a + 1)) (s.read8 (a + 2)) (s.read8 (a + 3))

/-- The bytes from an address on, n of them. -/
def State.bytesAt (s : State) : Word → Nat → List Byte
  | _, 0 => []
  | a, n + 1 => s.read8 a :: s.bytesAt (a + 1) n

/-- The line of the instruction at an address (60_exceptions R461). -/
def State.disasmLine (s : State) (a : Word) : DisasmLine :=
  let i := s.instrAt a
  { addr := a, length := i.length, bytes := s.bytesAt a i.length, text := i.text (a + BitVec.ofNat 16 i.length) }

/-- `Disassemble`: count instructions from an address on (R461). -/
def State.disassemble (s : State) : Word → Nat → List DisasmLine
  | _, 0 => []
  | a, n + 1 => s.disasmLine a :: s.disassemble (a + BitVec.ofNat 16 (s.disasmLine a).length) n

end Sys2Proof.Machine
end

