-- ==== Sys2Proof/Machine/Operands.lean ====
section
/-! DEFINITION. The operand forms (30_encoding R113, R114, R116, R122, R124, R130; 43_alu8 R240; 45_rotate_bit R294). -/

namespace Sys2Proof.Machine

/-! Registers and pairs of a bank -/

/-- A register of a bank (R113). -/
def Bank.get (k : Bank) : Reg8 → Byte
  | .b => k.b
  | .c => k.c
  | .d => k.d
  | .e => k.e
  | .h => k.h
  | .l => k.l
  | .a => k.a

/-- Write a register of a bank (R113). -/
def Bank.set (k : Bank) (r : Reg8) (v : Byte) : Bank :=
  match r with
  | .b => { k with b := v }
  | .c => { k with c := v }
  | .d => { k with d := v }
  | .e => { k with e := v }
  | .h => { k with h := v }
  | .l => { k with l := v }
  | .a => { k with a := v }

/-- BC (10_state R22). -/
def Bank.bc (k : Bank) : Word := join k.b k.c

/-- DE (R22). -/
def Bank.de (k : Bank) : Word := join k.d k.e

/-- HL (R22). -/
def Bank.hl (k : Bank) : Word := join k.h k.l

/-- AF (R22). -/
def Bank.af (k : Bank) : Word := join k.a k.f

/-- Write BC: both halves (R22). -/
def Bank.setBc (k : Bank) (w : Word) : Bank := { k with b := hi w, c := lo w }

/-- Write DE: both halves (R22). -/
def Bank.setDe (k : Bank) (w : Word) : Bank := { k with d := hi w, e := lo w }

/-- Write HL: both halves (R22). -/
def Bank.setHl (k : Bank) (w : Word) : Bank := { k with h := hi w, l := lo w }

/-- Write AF: both halves, all eight bits of F (R22, R29). -/
def Bank.setAf (k : Bank) (w : Word) : Bank := { k with a := hi w, f := lo w }

/-! Register operands of the state -/

/-- `ReadR(code)` without a prefix (30_encoding R130). -/
def State.reg (s : State) (r : Reg8) : Byte := s.main.get r

/-- `WriteR(code, v)` without a prefix (R130). -/
def State.setReg (s : State) (r : Reg8) (v : Byte) : State := s.setMain (s.main.set r v)

/-- Write A. -/
def State.setA (s : State) (v : Byte) : State := s.setMain { s.main with a := v }

/-- Write F, as one whole byte (10_state R29). -/
def State.setF (s : State) (v : Byte) : State := s.setMain { s.main with f := v }

/-- Write A and F. -/
def State.setAF (s : State) (a f : Byte) : State := s.setMain { s.main with a := a, f := f }

/-- BC. -/
def State.bc (s : State) : Word := s.main.bc

/-- DE. -/
def State.de (s : State) : Word := s.main.de

/-- HL. -/
def State.hl (s : State) : Word := s.main.hl

/-- Write HL. -/
def State.setHl (s : State) (w : Word) : State := s.setMain (s.main.setHl w)

/-- `Pair(code)` of the table rp (R114, R130). -/
def State.pair (s : State) : Pair → Word
  | .bc => s.main.bc
  | .de => s.main.de
  | .hl => s.main.hl
  | .sp => s.sp

/-- Write a pair of the table rp. -/
def State.setPair (s : State) (p : Pair) (w : Word) : State :=
  match p with
  | .bc => s.setMain (s.main.setBc w)
  | .de => s.setMain (s.main.setDe w)
  | .hl => s.setMain (s.main.setHl w)
  | .sp => s.setSp w

/-- A pair of the table rp2 (R114). -/
def State.pairQ (s : State) : PairQ → Word
  | .bc => s.main.bc
  | .de => s.main.de
  | .hl => s.main.hl
  | .af => s.main.af

/-- Write a pair of the table rp2. -/
def State.setPairQ (s : State) (q : PairQ) (w : Word) : State :=
  match q with
  | .bc => s.setMain (s.main.setBc w)
  | .de => s.setMain (s.main.setDe w)
  | .hl => s.setMain (s.main.setHl w)
  | .af => s.setMain (s.main.setAf w)

/-! Index registers and their halves -/

/-- XY: the index register the prefix selects (10_state R25). -/
def State.xy (s : State) : Idx → Word
  | .ix => s.ix
  | .iy => s.iy

/-- Write XY. -/
def State.setXy (s : State) (x : Idx) (w : Word) : State :=
  match x with
  | .ix => s.setIx w
  | .iy => s.setIy w

/-- XYh or XYl (30_encoding R124). -/
def State.half (s : State) (x : Idx) : Half → Byte
  | .hi => hi (s.xy x)
  | .lo => lo (s.xy x)

/-- Write one half of XY; the other half stays (R124, 40_load8 R169). -/
def State.setHalf (s : State) (x : Idx) (h : Half) (v : Byte) : State :=
  match h with
  | .hi => s.setXy x (join v (lo (s.xy x)))
  | .lo => s.setXy x (join (hi (s.xy x)) v)

/-- `ReadR(code)` under a prefix, in a form without `(XY+d)` (R130). -/
def State.regX (s : State) (x : Idx) : RegX → Byte
  | .b => s.main.b
  | .c => s.main.c
  | .d => s.main.d
  | .e => s.main.e
  | .xh => s.half x .hi
  | .xl => s.half x .lo
  | .a => s.main.a

/-- `WriteR(code, v)` under a prefix, in a form without `(XY+d)` (R130). -/
def State.setRegX (s : State) (x : Idx) (r : RegX) (v : Byte) : State :=
  match r with
  | .b => s.setReg .b v
  | .c => s.setReg .c v
  | .d => s.setReg .d v
  | .e => s.setReg .e v
  | .xh => s.setHalf x .hi v
  | .xl => s.setHalf x .lo v
  | .a => s.setReg .a v

/-- A pair of the table pp: code 2 is XY itself (R114, 44_alu16 R271). -/
def State.pairX (s : State) (x : Idx) : PairX → Word
  | .bc => s.main.bc
  | .de => s.main.de
  | .xy => s.xy x
  | .sp => s.sp

/-- The effective address `ea = (XY + sext_8(d)) mod 2^16` (R122). -/
def State.ea (s : State) (x : Idx) (d : Byte) : Word := s.xy x + sext d

/-! Conditions -/

/-- `cond(cc)`: the test of F (R116; F's bits 10_state R27). -/
def State.cond (s : State) : Cond → Bool
  | .nz => !s.main.f.getLsbD 6
  | .z => s.main.f.getLsbD 6
  | .nc => !s.main.f.getLsbD 0
  | .c => s.main.f.getLsbD 0
  | .po => !s.main.f.getLsbD 2
  | .pe => s.main.f.getLsbD 2
  | .p => !s.main.f.getLsbD 7
  | .m => s.main.f.getLsbD 7

end Sys2Proof.Machine
end

