-- ==== Sys2Proof/Machine/Flags.lean ====
section
/-! DEFINITION. Results and flag bytes (10_state R27 to R29; 43_alu8 R240 to R263; 44_alu16 R279; 45_rotate_bit R294 to R309; 42_block). Each
flag function gives F as one whole byte from the old F and the operands (R29). -/

namespace Sys2Proof.Machine

/-- F from its eight bits S Z Y H X PV N C, bit 7 down to bit 0 (R27). -/
def packF (s z y h x p n c : Bool) : Byte :=
  BitVec.ofBool s ++ BitVec.ofBool z ++ BitVec.ofBool y ++ BitVec.ofBool h ++
    BitVec.ofBool x ++ BitVec.ofBool p ++ BitVec.ofBool n ++ BitVec.ofBool c

/-- F.S (R27). -/
def flagS (f : Byte) : Bool := f.getLsbD 7

/-- F.Z (R27). -/
def flagZ (f : Byte) : Bool := f.getLsbD 6

/-- F.Y (R27). -/
def flagY (f : Byte) : Bool := f.getLsbD 5

/-- F.H (R27). -/
def flagH (f : Byte) : Bool := f.getLsbD 4

/-- F.X (R27). -/
def flagX (f : Byte) : Bool := f.getLsbD 3

/-- F.PV (R27). -/
def flagP (f : Byte) : Bool := f.getLsbD 2

/-- F.N (R27). -/
def flagN (f : Byte) : Bool := f.getLsbD 1

/-- F.C (R27). -/
def flagC (f : Byte) : Bool := f.getLsbD 0

/-- `parity(v)`: true when v has an even number of 1 bits (00_scope R9). -/
def parity (v : Byte) : Bool :=
  !(v.getLsbD 0 ^^ v.getLsbD 1 ^^ v.getLsbD 2 ^^ v.getLsbD 3 ^^ v.getLsbD 4 ^^ v.getLsbD 5 ^^ v.getLsbD 6 ^^ v.getLsbD 7)

/-- The flag bytes whose S, Z, Y and X come from the byte v (R11, SZXY). -/
def packSzyx (v : Byte) (h p n c : Bool) : Byte :=
  packF (v.getLsbD 7) (v == 0) (v.getLsbD 5) h (v.getLsbD 3) p n c

/-- The low four bits of a byte as a number. -/
def low4 (v : Byte) : Nat := v.toNat % 16

/-! Addition and subtraction of bytes (43_alu8 R240) -/

/-- `(a + s + c) mod 256`. -/
def add8 (a s : Byte) (c : Bool) : Byte := BitVec.ofNat 8 (a.toNat + s.toNat + c.toNat)

/-- The eight flags of an addition. -/
def addFlags (a s : Byte) (c : Bool) : Byte :=
  let res := add8 a s c
  packSzyx res (decide (low4 a + low4 s + c.toNat > 15))
    (a.getLsbD 7 == s.getLsbD 7 && res.getLsbD 7 != a.getLsbD 7) false
    (decide (a.toNat + s.toNat + c.toNat > 255))

/-- `(a - s - c) mod 256`. -/
def sub8 (a s : Byte) (c : Bool) : Byte := BitVec.ofInt 8 ((a.toNat : Int) - s.toNat - c.toNat)

/-- The eight flags of a subtraction, with Y and X taken from the byte yx. -/
def subFlagsYx (a s : Byte) (c : Bool) (yx : Byte) : Byte :=
  let res := sub8 a s c
  packF (res.getLsbD 7) (res == 0) (yx.getLsbD 5) (decide (low4 a < low4 s + c.toNat)) (yx.getLsbD 3)
    (a.getLsbD 7 != s.getLsbD 7 && res.getLsbD 7 != a.getLsbD 7) true
    (decide (a.toNat < s.toNat + c.toNat))

/-- The eight flags of a subtraction: Y and X from the result. -/
def subFlags (a s : Byte) (c : Bool) : Byte := subFlagsYx a s c (sub8 a s c)

/-- The flags of CP: as a subtraction, but Y and X from the operand (R248, 90_conflicts C5). -/
def cpFlags (a s : Byte) : Byte := subFlagsYx a s false s

/-- The flags of AND, XOR and OR: H as given, PV the parity, N and C 0 (R245 to R247). -/
def logicFlags (res : Byte) (h : Bool) : Byte := packSzyx res h (parity res) false false

/-- What the accumulator holds after an operation with operand v (R241 to R248). -/
def aluResult (op : AluOp) (a v : Byte) (c : Bool) : Byte :=
  match op with
  | .add => add8 a v false
  | .adc => add8 a v c
  | .sub => sub8 a v false
  | .sbc => sub8 a v c
  | .and => a &&& v
  | .xor => a ^^^ v
  | .or => a ||| v
  | .cp => a

/-- F after an accumulator operation (R241 to R248). -/
def aluFlags (op : AluOp) (a v : Byte) (c : Bool) : Byte :=
  match op with
  | .add => addFlags a v false
  | .adc => addFlags a v c
  | .sub => subFlags a v false
  | .sbc => subFlags a v c
  | .and => logicFlags (a &&& v) true
  | .xor => logicFlags (a ^^^ v) false
  | .or => logicFlags (a ||| v) false
  | .cp => cpFlags a v

/-- F after INC of the byte a: C kept (R249). -/
def incFlags (f a : Byte) : Byte :=
  packSzyx (a + 1) (low4 a == 15) (a == 0x7F) false (flagC f)

/-- F after DEC of the byte a: C kept (R253). -/
def decFlags (f a : Byte) : Byte :=
  packSzyx (a - 1) (low4 a == 0) (a == 0x80) true (flagC f)

/-! DAA (R257) -/

/-- The first condition of DAA: correct the low digit. -/
def daaLow (a f : Byte) : Bool := flagH f || decide (low4 a > 9)

/-- The second condition of DAA, which is the new carry: correct the high digit. -/
def daaHigh (a f : Byte) : Bool := flagC f || decide (a.toNat > 0x99)

/-- `corr`. -/
def daaCorr (a f : Byte) : Byte :=
  (if daaLow a f then 0x06 else 0) + (if daaHigh a f then 0x60 else 0)

/-- A after DAA. -/
def daaResult (a f : Byte) : Byte :=
  if flagN f then a - daaCorr a f else a + daaCorr a f

/-- `h'`. -/
def daaHalf (a f : Byte) : Bool :=
  if flagN f then flagH f && decide (low4 a < 6) else decide (low4 a > 9)

/-- F after DAA: N kept. -/
def daaFlags (a f : Byte) : Byte :=
  packSzyx (daaResult a f) (daaHalf a f) (parity (daaResult a f)) (flagN f) (daaHigh a f)

/-- F with S, Z and PV kept, Y and X from a, and H, N, C as given: CCF, SCF (R262, R263) and the accumulator rotates (45_rotate_bit R290). -/
def keepSzp (f a : Byte) (h n c : Bool) : Byte :=
  packF (flagS f) (flagZ f) (a.getLsbD 5) h (a.getLsbD 3) (flagP f) n c

/-- F after CPL, from the new A: S, Z, PV and C kept (R258). -/
def cplFlags (f a : Byte) : Byte := keepSzp f a true true (flagC f)

/-! 16-bit arithmetic (44_alu16 R279) -/

/-- The low twelve bits of a word as a number. -/
def low12 (w : Word) : Nat := w.toNat % 4096

/-- `(a + s + c) mod 65536`. -/
def add16 (a s : Word) (c : Bool) : Word := BitVec.ofNat 16 (a.toNat + s.toNat + c.toNat)

/-- `(a - s - c) mod 65536`. -/
def sub16 (a s : Word) (c : Bool) : Word := BitVec.ofInt 16 ((a.toNat : Int) - s.toNat - c.toNat)

/-- H of a 16-bit addition: the carry out of bit 11. -/
def add16H (a s : Word) (c : Bool) : Bool := decide (low12 a + low12 s + c.toNat > 0xFFF)

/-- C of a 16-bit addition. -/
def add16C (a s : Word) (c : Bool) : Bool := decide (a.toNat + s.toNat + c.toNat > 0xFFFF)

/-- F after ADD HL,ss or ADD XY,pp: S, Z and PV kept, Y and X bits 13 and 11 of the result (R270, R271). -/
def addPairFlags (f : Byte) (a s : Word) : Byte :=
  keepSzp f (hi (add16 a s false)) (add16H a s false) false (add16C a s false)

/-- F after ADC HL,ss (R272). -/
def adcPairFlags (a s : Word) (c : Bool) : Byte :=
  let res := add16 a s c
  packF (res.getLsbD 15) (res == 0) (res.getLsbD 13) (add16H a s c) (res.getLsbD 11)
    (a.getLsbD 15 == s.getLsbD 15 && res.getLsbD 15 != a.getLsbD 15) false (add16C a s c)

/-- F after SBC HL,ss (R273). -/
def sbcPairFlags (a s : Word) (c : Bool) : Byte :=
  let res := sub16 a s c
  packF (res.getLsbD 15) (res == 0) (res.getLsbD 13) (decide (low12 a < low12 s + c.toNat)) (res.getLsbD 11)
    (a.getLsbD 15 != s.getLsbD 15 && res.getLsbD 15 != a.getLsbD 15) true
    (decide (a.toNat < s.toNat + c.toNat))

/-! Rotates, shifts and bits (45_rotate_bit) -/

/-- The byte with v's bits 6:0 moved up and b at bit 0. -/
def shiftIn0 (v : Byte) (b : Bool) : Byte := v.extractLsb' 0 7 ++ BitVec.ofBool b

/-- The byte with v's bits 7:1 moved down and b at bit 7. -/
def shiftIn7 (v : Byte) (b : Bool) : Byte := BitVec.ofBool b ++ v.extractLsb' 1 7

/-- `res` of a rotate or shift of v with the old carry c (R295 to R302). -/
def rotResult (op : RotOp) (v : Byte) (c : Bool) : Byte :=
  match op with
  | .rlc => shiftIn0 v (v.getLsbD 7)
  | .rrc => shiftIn7 v (v.getLsbD 0)
  | .rl => shiftIn0 v c
  | .rr => shiftIn7 v c
  | .sla => shiftIn0 v false
  | .sra => shiftIn7 v (v.getLsbD 7)
  | .sll => shiftIn0 v true
  | .srl => shiftIn7 v false

/-- `cout`: the bit shifted out (R295 to R302). -/
def rotCarry (op : RotOp) (v : Byte) : Bool :=
  match op with
  | .rlc | .rl | .sla | .sll => v.getLsbD 7
  | .rrc | .rr | .sra | .srl => v.getLsbD 0

/-- F after a rotate or shift of the CB and DDCB tables (R294). -/
def rotFlags (op : RotOp) (v : Byte) (c : Bool) : Byte :=
  let res := rotResult op v c
  packSzyx res false (parity res) false (rotCarry op v)

/-- F after RLCA, RRCA, RLA, RRA, from the new A and the bit shifted out (R290 to R293). -/
def rotAFlags (f res : Byte) (cout : Bool) : Byte := keepSzp f res false false cout

/-- F after BIT b of the byte v, with Y and X given: C kept (R303 to R305). -/
def bitFlags (f v : Byte) (b : BitVec 3) (y x : Bool) : Byte :=
  let t := v.getLsbD b.toNat
  packF (b == 7 && t) (!t) y true x (!t) false (flagC f)

/-- `v OR (1 << b)` (R306). -/
def setBit (v : Byte) (b : BitVec 3) : Byte := v ||| (1#8 <<< b.toNat)

/-- `v AND NOT (1 << b)` (R307). -/
def resBit (v : Byte) (b : BitVec 3) : Byte := v &&& ~~~(1#8 <<< b.toNat)

/-- F with S, Z, Y, X and PV from the byte v, H and N 0 and C kept: RLD, RRD (R308, R309), IN r,(C) (47_io R353). -/
def szypFlags (f v : Byte) : Byte := packSzyx v false (parity v) false (flagC f)

/-- F after LD A,I or LD A,R, from the value copied and IFF2: C kept (40_load8 R161, R162). -/
def ldAirFlags (f v : Byte) (iff2 : Bool) : Byte := packSzyx v false iff2 false (flagC f)

/-! Block instructions (42_block) -/

/-- F after LDI or LDD: S, Z and C kept, Y and X from bits 1 and 3 of A + v, PV tells BC ≠ 0 (R210). -/
def ldBlockFlags (f a v : Byte) (bc : Word) : Byte :=
  let n := a + v
  packF (flagS f) (flagZ f) (n.getLsbD 1) false (n.getLsbD 3) (bc != 0) false (flagC f)

/-- F after CPI or CPD: C kept, PV tells BC ≠ 0 (R215). -/
def cpBlockFlags (f a v : Byte) (bc : Word) : Byte :=
  let r := a - v
  let h := decide (low4 a < low4 v)
  let n := r - (BitVec.ofBool h).setWidth 8
  packF (r.getLsbD 7) (r == 0) (n.getLsbD 1) h (n.getLsbD 3) (bc != 0) true (flagC f)

/-- F after a block input or output: from the byte v, the integer k and the new B (R220, R224). -/
def ioBlockFlags (v : Byte) (k : Nat) (b : Byte) : Byte :=
  packF (b.getLsbD 7) (b == 0) (b.getLsbD 5) (decide (k > 255)) (b.getLsbD 3)
    (parity (BitVec.ofNat 8 (k % 8) ^^^ b)) (v.getLsbD 7) (decide (k > 255))

/-- F with the bits of a mask replaced by a free byte's bits (R219, R304). -/
def drawBits (f mask free : Byte) : Byte := (f &&& ~~~mask) ||| (free &&& mask)

/-- The bits Y and X (R219, R304). -/
def maskYx : Byte := 0x28

/-- The bits Y, X, H and PV (R219). -/
def maskYxhp : Byte := 0x3C

end Sys2Proof.Machine
end

