-- ==== Sys2Proof/Machine/Load8.lean ====
section
/-! DEFINITION. 8-bit loads (40_load8). Fetching changes PC and R only, so every other register is read from the state before it. -/

namespace Sys2Proof.Machine

/-- Complete after a write: t T-states. -/
def finish (t : Nat) (x : Result) : Result := andThen x (done t)

/-- LD r,(XY+d) (R155): r is not substituted. -/
def ldRAtXy (x : Idx) (r : Reg8) (d : Byte) (s : State) : Result :=
  done 19 ((s.fetch 3 2).setReg r (s.read8 (s.ea x d)))

/-- LD (XY+d),r (R156): r is not substituted. -/
def ldAtXyR (x : Idx) (d : Byte) (r : Reg8) (s : State) : Result :=
  finish 19 ((s.fetch 3 2).write8 (s.ea x d) (s.reg r))

/-- LD (XY+d),n (R157). -/
def ldAtXyN (x : Idx) (d n : Byte) (s : State) : Result :=
  finish 19 ((s.fetch 4 2).write8 (s.ea x d) n)

/-- LD r,r' with XYh or XYl (R168). -/
def ldRRXy (x : Idx) (r r2 : RegX) (s : State) : Result :=
  done 8 ((s.fetch 2 2).setRegX x r (s.regX x r2))

/-- LD XYh,n and LD XYl,n (R169). -/
def ldHalfN (x : Idx) (h : Half) (n : Byte) (s : State) : Result :=
  done 11 ((s.fetch 3 2).setHalf x h n)

/-- `LD r,r'` (R150). -/
def execLdRR (r : Reg8) (r2 : Reg8) (s : State) : Result := done 4 ((s.fetch 1 1).setReg r (s.reg r2))

/-- `LD r,n` (R151). -/
def execLdRN (r : Reg8) (n : Byte) (s : State) : Result := done 7 ((s.fetch 2 1).setReg r n)

/-- `LD r,(HL)` (R152). -/
def execLdRAtHl (r : Reg8) (s : State) : Result := done 7 ((s.fetch 1 1).setReg r (s.read8 s.hl))

/-- `LD (HL),r` (R153). -/
def execLdAtHlR (r : Reg8) (s : State) : Result := finish 7 ((s.fetch 1 1).write8 s.hl (s.reg r))

/-- `LD (HL),n` (R154). -/
def execLdAtHlN (n : Byte) (s : State) : Result := finish 10 ((s.fetch 2 1).write8 s.hl n)

/-- `LD r,(IX+d)` (R155). -/
def execLdRAtIx (r : Reg8) (d : Byte) (s : State) : Result := ldRAtXy .ix r d s

/-- `LD (IX+d),r` (R156). -/
def execLdAtIxR (d : Byte) (r : Reg8) (s : State) : Result := ldAtXyR .ix d r s

/-- `LD (IX+d),n` (R157). -/
def execLdAtIxN (d : Byte) (n : Byte) (s : State) : Result := ldAtXyN .ix d n s

/-- `LD r,(IY+d)` (R155). -/
def execLdRAtIy (r : Reg8) (d : Byte) (s : State) : Result := ldRAtXy .iy r d s

/-- `LD (IY+d),r` (R156). -/
def execLdAtIyR (d : Byte) (r : Reg8) (s : State) : Result := ldAtXyR .iy d r s

/-- `LD (IY+d),n` (R157). -/
def execLdAtIyN (d : Byte) (n : Byte) (s : State) : Result := ldAtXyN .iy d n s

/-- `LD A,(BC)` (R158). -/
def execLdAAtBc (s : State) : Result := done 7 ((s.fetch 1 1).setA (s.read8 s.bc))

/-- `LD A,(DE)` (R159). -/
def execLdAAtDe (s : State) : Result := done 7 ((s.fetch 1 1).setA (s.read8 s.de))

/-- `LD A,(nn)` (R160). -/
def execLdAAtNn (nn : Word) (s : State) : Result := done 13 ((s.fetch 3 1).setA (s.read8 nn))

/-- `LD (BC),A` (R165). -/
def execLdAtBcA (s : State) : Result := finish 7 ((s.fetch 1 1).write8 s.bc s.main.a)

/-- `LD (DE),A` (R166). -/
def execLdAtDeA (s : State) : Result := finish 7 ((s.fetch 1 1).write8 s.de s.main.a)

/-- `LD (nn),A` (R167). -/
def execLdAtNnA (nn : Word) (s : State) : Result := finish 13 ((s.fetch 3 1).write8 nn s.main.a)

/-- `LD A,I` (R161). -/
def execLdAI (s : State) : Result := done 9 ((s.fetch 2 2).setAF s.i (ldAirFlags s.main.f s.i s.ctl.iff2))

/-- `LD A,R` (R162). R is read after the two increments. -/
def execLdAR (s : State) : Result := done 9 ((s.fetch 2 2).setAF (s.fetch 2 2).r (ldAirFlags s.main.f (s.fetch 2 2).r s.ctl.iff2))

/-- `LD I,A` (R163). -/
def execLdIA (s : State) : Result := done 9 ((s.fetch 2 2).setI s.main.a)

/-- `LD R,A` (R164). All eight bits, after the two increments. -/
def execLdRA (s : State) : Result := done 9 ((s.fetch 2 2).setR s.main.a)

/-- `LD r,r' (with IXH/IXL)` (R168). -/
def execLdRRIx (r : RegX) (r2 : RegX) (s : State) : Result := ldRRXy .ix r r2 s

/-- `LD IXH,n / LD IXL,n` (R169). -/
def execLdIxHalfN (x : Half) (n : Byte) (s : State) : Result := ldHalfN .ix x n s

/-- `LD r,r' (with IYH/IYL)` (R168). -/
def execLdRRIy (r : RegX) (r2 : RegX) (s : State) : Result := ldRRXy .iy r r2 s

/-- `LD IYH,n / LD IYL,n` (R169). -/
def execLdIyHalfN (x : Half) (n : Byte) (s : State) : Result := ldHalfN .iy x n s

end Sys2Proof.Machine
end

