-- ==== Sys2Proof/Machine/Alu16.lean ====
section
/-! DEFINITION. 16-bit arithmetic (44_alu16). -/

namespace Sys2Proof.Machine

/-- ADD XY,pp (R271). -/
def addXyPp (x : Idx) (pp : PairX) (s : State) : Result :=
  done 15 (((s.fetch 2 2).setXy x (add16 (s.xy x) (s.pairX x pp) false)).setF
    (addPairFlags s.main.f (s.xy x) (s.pairX x pp)))

/-- INC XY (R275). -/
def incXy (x : Idx) (s : State) : Result := done 10 ((s.fetch 2 2).setXy x (s.xy x + 1))

/-- DEC XY (R277). -/
def decXy (x : Idx) (s : State) : Result := done 10 ((s.fetch 2 2).setXy x (s.xy x - 1))

/-- `ADD HL,ss` (R270). -/
def execAddHlSs (ss : Pair) (s : State) : Result :=
  done 11 (((s.fetch 1 1).setHl (add16 s.hl (s.pair ss) false)).setF (addPairFlags s.main.f s.hl (s.pair ss)))

/-- `ADC HL,ss` (R272). -/
def execAdcHlSs (ss : Pair) (s : State) : Result :=
  done 15 (((s.fetch 2 2).setHl (add16 s.hl (s.pair ss) (flagC s.main.f))).setF (adcPairFlags s.hl (s.pair ss) (flagC s.main.f)))

/-- `SBC HL,ss` (R273). -/
def execSbcHlSs (ss : Pair) (s : State) : Result :=
  done 15 (((s.fetch 2 2).setHl (sub16 s.hl (s.pair ss) (flagC s.main.f))).setF (sbcPairFlags s.hl (s.pair ss) (flagC s.main.f)))

/-- `INC ss` (R274). -/
def execIncSs (ss : Pair) (s : State) : Result := done 6 ((s.fetch 1 1).setPair ss (s.pair ss + 1))

/-- `DEC ss` (R276). -/
def execDecSs (ss : Pair) (s : State) : Result := done 6 ((s.fetch 1 1).setPair ss (s.pair ss - 1))

/-- `ADD IX,pp` (R271). -/
def execAddIxPp (pp : PairX) (s : State) : Result := addXyPp .ix pp s

/-- `INC IX` (R275). -/
def execIncIx (s : State) : Result := incXy .ix s

/-- `DEC IX` (R277). -/
def execDecIx (s : State) : Result := decXy .ix s

/-- `ADD IY,pp` (R271). -/
def execAddIyPp (pp : PairX) (s : State) : Result := addXyPp .iy pp s

/-- `INC IY` (R275). -/
def execIncIy (s : State) : Result := incXy .iy s

/-- `DEC IY` (R277). -/
def execDecIy (s : State) : Result := decXy .iy s

end Sys2Proof.Machine
end

