-- ==== Sys2Proof/Machine/Alu8.lean ====
section
/-! DEFINITION. 8-bit arithmetic and logic (43_alu8). -/

namespace Sys2Proof.Machine

/-- An accumulator operation with operand v: A and F (R241 to R248). -/
def State.alu (s : State) (op : AluOp) (v : Byte) : State :=
  s.setAF (aluResult op s.main.a v (flagC s.main.f)) (aluFlags op s.main.a v (flagC s.main.f))

/-- `op r` (R240). -/
def aluR (op : AluOp) (r : Reg8) (s : State) : Result := done 4 ((s.fetch 1 1).alu op (s.reg r))

/-- `op (HL)` (R240). -/
def aluAtHl (op : AluOp) (s : State) : Result := done 7 ((s.fetch 1 1).alu op (s.read8 s.hl))

/-- `op n` (R240). -/
def aluN (op : AluOp) (n : Byte) (s : State) : Result := done 7 ((s.fetch 2 1).alu op n)

/-- `op (XY+d)` (R240). -/
def aluAtXy (op : AluOp) (x : Idx) (d : Byte) (s : State) : Result :=
  done 19 ((s.fetch 3 2).alu op (s.read8 (s.ea x d)))

/-- `op XYh` and `op XYl` (R240). -/
def aluHalf (op : AluOp) (x : Idx) (h : Half) (s : State) : Result :=
  done 8 ((s.fetch 2 2).alu op (s.half x h))

/-- INC of the byte at addr, after the fetch (R250, R251): F reflects the new byte also where the write is dropped. -/
def State.incAt (s : State) (addr : Word) (t : Nat) : Result :=
  andThen (s.write8 addr (s.read8 addr + 1)) fun s1 => done t (s1.setF (incFlags s.main.f (s.read8 addr)))

/-- DEC of the byte at addr, after the fetch (R254, R255). -/
def State.decAt (s : State) (addr : Word) (t : Nat) : Result :=
  andThen (s.write8 addr (s.read8 addr - 1)) fun s1 => done t (s1.setF (decFlags s.main.f (s.read8 addr)))

/-- INC XYh and INC XYl (R252). -/
def incHalf (x : Idx) (h : Half) (s : State) : Result :=
  done 8 (((s.fetch 2 2).setHalf x h (s.half x h + 1)).setF (incFlags s.main.f (s.half x h)))

/-- DEC XYh and DEC XYl (R256). -/
def decHalf (x : Idx) (h : Half) (s : State) : Result :=
  done 8 (((s.fetch 2 2).setHalf x h (s.half x h - 1)).setF (decFlags s.main.f (s.half x h)))

/-- `ADD A,r` (R241). -/
def execAddR (r : Reg8) (s : State) : Result := aluR .add r s

/-- `ADD A,(HL)` (R241). -/
def execAddAtHl (s : State) : Result := aluAtHl .add s

/-- `ADD A,n` (R241). -/
def execAddN (n : Byte) (s : State) : Result := aluN .add n s

/-- `ADC A,r` (R242). -/
def execAdcR (r : Reg8) (s : State) : Result := aluR .adc r s

/-- `ADC A,(HL)` (R242). -/
def execAdcAtHl (s : State) : Result := aluAtHl .adc s

/-- `ADC A,n` (R242). -/
def execAdcN (n : Byte) (s : State) : Result := aluN .adc n s

/-- `SUB r` (R243). -/
def execSubR (r : Reg8) (s : State) : Result := aluR .sub r s

/-- `SUB (HL)` (R243). -/
def execSubAtHl (s : State) : Result := aluAtHl .sub s

/-- `SUB n` (R243). -/
def execSubN (n : Byte) (s : State) : Result := aluN .sub n s

/-- `SBC A,r` (R244). -/
def execSbcR (r : Reg8) (s : State) : Result := aluR .sbc r s

/-- `SBC A,(HL)` (R244). -/
def execSbcAtHl (s : State) : Result := aluAtHl .sbc s

/-- `SBC A,n` (R244). -/
def execSbcN (n : Byte) (s : State) : Result := aluN .sbc n s

/-- `AND r` (R245). -/
def execAndR (r : Reg8) (s : State) : Result := aluR .and r s

/-- `AND (HL)` (R245). -/
def execAndAtHl (s : State) : Result := aluAtHl .and s

/-- `AND n` (R245). -/
def execAndN (n : Byte) (s : State) : Result := aluN .and n s

/-- `XOR r` (R246). -/
def execXorR (r : Reg8) (s : State) : Result := aluR .xor r s

/-- `XOR (HL)` (R246). -/
def execXorAtHl (s : State) : Result := aluAtHl .xor s

/-- `XOR n` (R246). -/
def execXorN (n : Byte) (s : State) : Result := aluN .xor n s

/-- `OR r` (R247). -/
def execOrR (r : Reg8) (s : State) : Result := aluR .or r s

/-- `OR (HL)` (R247). -/
def execOrAtHl (s : State) : Result := aluAtHl .or s

/-- `OR n` (R247). -/
def execOrN (n : Byte) (s : State) : Result := aluN .or n s

/-- `CP r` (R248). -/
def execCpR (r : Reg8) (s : State) : Result := aluR .cp r s

/-- `CP (HL)` (R248). -/
def execCpAtHl (s : State) : Result := aluAtHl .cp s

/-- `CP n` (R248). -/
def execCpN (n : Byte) (s : State) : Result := aluN .cp n s

/-- `ADD A,IXH / IXL` (R241). -/
def execAddIxHalf (x : Half) (s : State) : Result := aluHalf .add .ix x s

/-- `ADD A,(IX+d)` (R241). -/
def execAddAtIx (d : Byte) (s : State) : Result := aluAtXy .add .ix d s

/-- `ADC A,IXH / IXL` (R242). -/
def execAdcIxHalf (x : Half) (s : State) : Result := aluHalf .adc .ix x s

/-- `ADC A,(IX+d)` (R242). -/
def execAdcAtIx (d : Byte) (s : State) : Result := aluAtXy .adc .ix d s

/-- `SUB IXH / IXL` (R243). -/
def execSubIxHalf (x : Half) (s : State) : Result := aluHalf .sub .ix x s

/-- `SUB (IX+d)` (R243). -/
def execSubAtIx (d : Byte) (s : State) : Result := aluAtXy .sub .ix d s

/-- `SBC A,IXH / IXL` (R244). -/
def execSbcIxHalf (x : Half) (s : State) : Result := aluHalf .sbc .ix x s

/-- `SBC A,(IX+d)` (R244). -/
def execSbcAtIx (d : Byte) (s : State) : Result := aluAtXy .sbc .ix d s

/-- `AND IXH / IXL` (R245). -/
def execAndIxHalf (x : Half) (s : State) : Result := aluHalf .and .ix x s

/-- `AND (IX+d)` (R245). -/
def execAndAtIx (d : Byte) (s : State) : Result := aluAtXy .and .ix d s

/-- `XOR IXH / IXL` (R246). -/
def execXorIxHalf (x : Half) (s : State) : Result := aluHalf .xor .ix x s

/-- `XOR (IX+d)` (R246). -/
def execXorAtIx (d : Byte) (s : State) : Result := aluAtXy .xor .ix d s

/-- `OR IXH / IXL` (R247). -/
def execOrIxHalf (x : Half) (s : State) : Result := aluHalf .or .ix x s

/-- `OR (IX+d)` (R247). -/
def execOrAtIx (d : Byte) (s : State) : Result := aluAtXy .or .ix d s

/-- `CP IXH / IXL` (R248). -/
def execCpIxHalf (x : Half) (s : State) : Result := aluHalf .cp .ix x s

/-- `CP (IX+d)` (R248). -/
def execCpAtIx (d : Byte) (s : State) : Result := aluAtXy .cp .ix d s

/-- `ADD A,IYH / IYL` (R241). -/
def execAddIyHalf (x : Half) (s : State) : Result := aluHalf .add .iy x s

/-- `ADD A,(IY+d)` (R241). -/
def execAddAtIy (d : Byte) (s : State) : Result := aluAtXy .add .iy d s

/-- `ADC A,IYH / IYL` (R242). -/
def execAdcIyHalf (x : Half) (s : State) : Result := aluHalf .adc .iy x s

/-- `ADC A,(IY+d)` (R242). -/
def execAdcAtIy (d : Byte) (s : State) : Result := aluAtXy .adc .iy d s

/-- `SUB IYH / IYL` (R243). -/
def execSubIyHalf (x : Half) (s : State) : Result := aluHalf .sub .iy x s

/-- `SUB (IY+d)` (R243). -/
def execSubAtIy (d : Byte) (s : State) : Result := aluAtXy .sub .iy d s

/-- `SBC A,IYH / IYL` (R244). -/
def execSbcIyHalf (x : Half) (s : State) : Result := aluHalf .sbc .iy x s

/-- `SBC A,(IY+d)` (R244). -/
def execSbcAtIy (d : Byte) (s : State) : Result := aluAtXy .sbc .iy d s

/-- `AND IYH / IYL` (R245). -/
def execAndIyHalf (x : Half) (s : State) : Result := aluHalf .and .iy x s

/-- `AND (IY+d)` (R245). -/
def execAndAtIy (d : Byte) (s : State) : Result := aluAtXy .and .iy d s

/-- `XOR IYH / IYL` (R246). -/
def execXorIyHalf (x : Half) (s : State) : Result := aluHalf .xor .iy x s

/-- `XOR (IY+d)` (R246). -/
def execXorAtIy (d : Byte) (s : State) : Result := aluAtXy .xor .iy d s

/-- `OR IYH / IYL` (R247). -/
def execOrIyHalf (x : Half) (s : State) : Result := aluHalf .or .iy x s

/-- `OR (IY+d)` (R247). -/
def execOrAtIy (d : Byte) (s : State) : Result := aluAtXy .or .iy d s

/-- `CP IYH / IYL` (R248). -/
def execCpIyHalf (x : Half) (s : State) : Result := aluHalf .cp .iy x s

/-- `CP (IY+d)` (R248). -/
def execCpAtIy (d : Byte) (s : State) : Result := aluAtXy .cp .iy d s

/-- `INC r` (R249). -/
def execIncR (r : Reg8) (s : State) : Result := done 4 (((s.fetch 1 1).setReg r (s.reg r + 1)).setF (incFlags s.main.f (s.reg r)))

/-- `INC (HL)` (R250). -/
def execIncAtHl (s : State) : Result := (s.fetch 1 1).incAt s.hl 11

/-- `DEC r` (R253). -/
def execDecR (r : Reg8) (s : State) : Result := done 4 (((s.fetch 1 1).setReg r (s.reg r - 1)).setF (decFlags s.main.f (s.reg r)))

/-- `DEC (HL)` (R254). -/
def execDecAtHl (s : State) : Result := (s.fetch 1 1).decAt s.hl 11

/-- `INC IXH / INC IXL` (R252). -/
def execIncIxHalf (x : Half) (s : State) : Result := incHalf .ix x s

/-- `DEC IXH / DEC IXL` (R256). -/
def execDecIxHalf (x : Half) (s : State) : Result := decHalf .ix x s

/-- `INC (IX+d)` (R251). -/
def execIncAtIx (d : Byte) (s : State) : Result := (s.fetch 3 2).incAt (s.ea .ix d) 23

/-- `DEC (IX+d)` (R255). -/
def execDecAtIx (d : Byte) (s : State) : Result := (s.fetch 3 2).decAt (s.ea .ix d) 23

/-- `INC IYH / INC IYL` (R252). -/
def execIncIyHalf (x : Half) (s : State) : Result := incHalf .iy x s

/-- `DEC IYH / DEC IYL` (R256). -/
def execDecIyHalf (x : Half) (s : State) : Result := decHalf .iy x s

/-- `INC (IY+d)` (R251). -/
def execIncAtIy (d : Byte) (s : State) : Result := (s.fetch 3 2).incAt (s.ea .iy d) 23

/-- `DEC (IY+d)` (R255). -/
def execDecAtIy (d : Byte) (s : State) : Result := (s.fetch 3 2).decAt (s.ea .iy d) 23

/-- `DAA` (R257). -/
def execDaa (s : State) : Result := done 4 ((s.fetch 1 1).setAF (daaResult s.main.a s.main.f) (daaFlags s.main.a s.main.f))

/-- `CPL` (R258). -/
def execCpl (s : State) : Result := done 4 ((s.fetch 1 1).setAF (~~~s.main.a) (cplFlags s.main.f (~~~s.main.a)))

/-- `NEG` (R259). For every y. -/
def execNeg (_y : BitVec 3) (s : State) : Result :=
  done 8 ((s.fetch 2 2).setAF (sub8 0 s.main.a false) (subFlags 0 s.main.a false))

/-- `CCF` (R262). -/
def execCcf (s : State) : Result :=
  done 4 ((s.fetch 1 1).setF (keepSzp s.main.f s.main.a (flagC s.main.f) false (!flagC s.main.f)))

/-- `SCF` (R263). -/
def execScf (s : State) : Result := done 4 ((s.fetch 1 1).setF (keepSzp s.main.f s.main.a false false true))

end Sys2Proof.Machine
end

