-- ==== Sys2Proof/Machine/Block.lean ====
section
/-! DEFINITION. Block transfer, search and I/O (42_block). The D forms pass -1 for `inc` (R228). -/

namespace Sys2Proof.Machine

/-- The iteration of a block instruction ends (R214, R219): it repeats, PC back at the ED byte and the masked bits of F drawn, 21 T-states;
or it is the last, 16 T-states. -/
def endIteration (again : Bool) (mask : Byte) (s : State) : Result :=
  if again then
    done 21 (((s.setPc (s.pc - 2)).setF (drawBits s.main.f mask s.freeByte)).drawn)
  else done 16 s

/-- LDI and LDD without their T-states (R210, R211). -/
def ldBlock (inc : Word) (s : State) : Result :=
  andThen ((s.fetch 2 2).write8 s.de (s.read8 s.hl)) fun s1 =>
    .next (s1.setMain { (((s.main.setHl (s.hl + inc)).setDe (s.de + inc)).setBc (s.bc - 1)) with
      f := ldBlockFlags s.main.f s.main.a (s.read8 s.hl) (s.bc - 1) })

/-- CPI and CPD without their T-states (R215, R216). -/
def cpBlock (inc : Word) (s : State) : State :=
  (s.fetch 2 2).setMain { ((s.main.setHl (s.hl + inc)).setBc (s.bc - 1)) with
    f := cpBlockFlags s.main.f s.main.a (s.read8 s.hl) (s.bc - 1) }

/-- INI and IND without their T-states (R220, R221): the port is BC before B is decremented; k is v + ((C + inc) mod 256). -/
def inBlock (inc : Word) (s : State) : Result :=
  let v := s.ioAnswer s.bc
  andThen (((s.fetch 2 2).ioReadDone s.bc).write8 s.hl v) fun s1 =>
    .next (s1.setMain { s.main.setHl (s.hl + inc) with
      b := s.main.b - 1
      f := ioBlockFlags v (v.toNat + (s.main.c + lo inc).toNat) (s.main.b - 1) })

/-- OUTI and OUTD without their T-states (R224, R225): the port is BC after B is decremented; k is v + L, L after the HL update. -/
def outBlock (inc : Word) (s : State) : State :=
  let v := s.read8 s.hl
  ((s.fetch 2 2).ioWrite (join (s.main.b - 1) s.main.c) v).setMain { s.main.setHl (s.hl + inc) with
    b := s.main.b - 1
    f := ioBlockFlags v (v.toNat + (lo (s.hl + inc)).toNat) (s.main.b - 1) }

/-- The repeating transfers go on while BC is not 0 (R212, R213). -/
def ldRepeat (inc : Word) (s : State) : Result :=
  andThen (ldBlock inc s) fun s1 => endIteration (s1.bc != 0) maskYx s1

/-- The repeating searches go on while BC is not 0 and the byte does not match: F.Z tells a match (R217, R218). -/
def cpRepeat (inc : Word) (s : State) : Result :=
  endIteration ((cpBlock inc s).bc != 0 && !flagZ (cpBlock inc s).main.f) maskYx (cpBlock inc s)

/-- The repeating inputs go on while B is not 0 (R222, R223). -/
def inRepeat (inc : Word) (s : State) : Result :=
  andThen (inBlock inc s) fun s1 => endIteration (s1.main.b != 0) maskYxhp s1

/-- The repeating outputs go on while B is not 0 (R226, R227). -/
def outRepeat (inc : Word) (s : State) : Result :=
  endIteration ((outBlock inc s).main.b != 0) maskYxhp (outBlock inc s)

/-- `LDI` (R210). -/
def execLdi (s : State) : Result := finish 16 (ldBlock 1 s)

/-- `LDD` (R211). -/
def execLdd (s : State) : Result := finish 16 (ldBlock (-1) s)

/-- `LDIR` (R212). -/
def execLdir (s : State) : Result := ldRepeat 1 s

/-- `LDDR` (R213). -/
def execLddr (s : State) : Result := ldRepeat (-1) s

/-- `CPI` (R215). -/
def execCpi (s : State) : Result := done 16 (cpBlock 1 s)

/-- `CPD` (R216). -/
def execCpd (s : State) : Result := done 16 (cpBlock (-1) s)

/-- `CPIR` (R217). -/
def execCpir (s : State) : Result := cpRepeat 1 s

/-- `CPDR` (R218). -/
def execCpdr (s : State) : Result := cpRepeat (-1) s

/-- `INI` (R220). -/
def execIni (s : State) : Result := finish 16 (inBlock 1 s)

/-- `IND` (R221). -/
def execInd (s : State) : Result := finish 16 (inBlock (-1) s)

/-- `INIR` (R222). -/
def execInir (s : State) : Result := inRepeat 1 s

/-- `INDR` (R223). -/
def execIndr (s : State) : Result := inRepeat (-1) s

/-- `OUTI` (R224). -/
def execOuti (s : State) : Result := done 16 (outBlock 1 s)

/-- `OUTD` (R225). -/
def execOutd (s : State) : Result := done 16 (outBlock (-1) s)

/-- `OTIR` (R226). -/
def execOtir (s : State) : Result := outRepeat 1 s

/-- `OTDR` (R227). -/
def execOtdr (s : State) : Result := outRepeat (-1) s

end Sys2Proof.Machine
end

