-- ==== Sys2Proof/Machine/Control.lean ====
section
/-! DEFINITION. Jumps, calls, returns and restarts (46_control_transfer). -/

namespace Sys2Proof.Machine

/-- The jump relative to the next instruction, after the fetch (R322). -/
def State.jumpRel (s : State) (e : Byte) : State := s.setPc (s.pc + sext e)

/-- `Push16(PC); PC <- target`, after the fetch (R327, R333). -/
def State.call (s : State) (target : Word) (t : Nat) : Result :=
  andThen (s.push16 s.pc) fun s1 => done t (s1.setPc target)

/-- `PC <- Pop16()`, after the fetch (R329). -/
def State.return (s : State) : State := s.popped.setPc s.top16

/-- `JP nn` (R320). -/
def execJpNn (nn : Word) (s : State) : Result := done 10 ((s.fetch 3 1).setPc nn)

/-- `JP cc,nn` (R321). -/
def execJpCcNn (cc : Cond) (nn : Word) (s : State) : Result :=
  if s.cond cc then done 10 ((s.fetch 3 1).setPc nn) else done 10 (s.fetch 3 1)

/-- `JR e` (R322). -/
def execJr (e : Byte) (s : State) : Result := done 12 ((s.fetch 2 1).jumpRel e)

/-- `JR cc,e` (R323). -/
def execJrCc (cc : Cond) (e : Byte) (s : State) : Result :=
  if s.cond cc then done 12 ((s.fetch 2 1).jumpRel e) else done 7 (s.fetch 2 1)

/-- `DJNZ e` (R324). -/
def execDjnz (e : Byte) (s : State) : Result :=
  if s.main.b - 1 != 0 then done 13 (((s.fetch 2 1).setReg .b (s.main.b - 1)).jumpRel e)
  else done 8 ((s.fetch 2 1).setReg .b (s.main.b - 1))

/-- `JP (HL)` (R325). -/
def execJpHl (s : State) : Result := done 4 ((s.fetch 1 1).setPc s.hl)

/-- `JP (IX)` (R326). -/
def execJpIx (s : State) : Result := done 8 ((s.fetch 2 2).setPc s.ix)

/-- `JP (IY)` (R326). -/
def execJpIy (s : State) : Result := done 8 ((s.fetch 2 2).setPc s.iy)

/-- `CALL nn` (R327). -/
def execCallNn (nn : Word) (s : State) : Result := (s.fetch 3 1).call nn 17

/-- `CALL cc,nn` (R328). -/
def execCallCcNn (cc : Cond) (nn : Word) (s : State) : Result :=
  if s.cond cc then (s.fetch 3 1).call nn 17 else done 10 (s.fetch 3 1)

/-- `RET` (R329). -/
def execRet (s : State) : Result := done 10 (s.fetch 1 1).return

/-- `RET cc` (R330). -/
def execRetCc (cc : Cond) (s : State) : Result := if s.cond cc then done 11 (s.fetch 1 1).return else done 5 (s.fetch 1 1)

/-- `RETI` (R331). -/
def execReti (s : State) : Result := done 14 (s.fetch 2 2).returnFromHandler

/-- `RETN` (R332). For every y. -/
def execRetn (_y : BitVec 3) (s : State) : Result := done 14 (s.fetch 2 2).returnFromHandler

/-- `RST p` (R333). -/
def execRst (p : BitVec 3) (s : State) : Result := (s.fetch 1 1).call (BitVec.ofNat 16 (8 * p.toNat)) 11

end Sys2Proof.Machine
end

