-- ==== Sys2Proof/Machine/CpuControl.lean ====
section
/-! DEFINITION. CPU control and the no-effect forms (48_cpu_control). -/

namespace Sys2Proof.Machine

/-- An undefined ED opcode (R377). -/
def undefinedEd (op : Byte) (s : State) : Result :=
  done 8 ((s.fetch 2 2).emitIf s.params.logUndefined (.undefinedOpcode s.pc [0xED, op]))

/-- A lone prefix (R378): the next boundary accepts no interrupt. -/
def lonePrefix (pfx : Byte) (s : State) : Result :=
  done 4 (((s.fetch 1 1).setCtl { s.ctl with prefixDefer := true }).emitIf s.params.logUndefined
    (.undefinedOpcode s.pc [pfx]))

/-- `NOP` (R370). -/
def execNop (s : State) : Result := done 4 (s.fetch 1 1)

/-- `HALT` (R371). -/
def execHalt (s : State) : Result := done 4 ((s.fetch 1 1).setCtl { s.ctl with halted := true })

/-- `DI` (R372). -/
def execDi (s : State) : Result := done 4 ((s.fetch 1 1).setCtl { s.ctl with iff1 := false, iff2 := false })

/-- `EI` (R373). -/
def execEi (s : State) : Result := done 4 ((s.fetch 1 1).setCtl { s.ctl with iff1 := true, iff2 := true, eiDefer := true })

/-- `IM 0` (R374). -/
def execIm0 (_y : BitVec 3) (s : State) : Result := done 8 ((s.fetch 2 2).setCtl { s.ctl with im := .mode0 })

/-- `IM 1` (R375). -/
def execIm1 (_y : BitVec 3) (s : State) : Result := done 8 ((s.fetch 2 2).setCtl { s.ctl with im := .mode1 })

/-- `IM 2` (R376). -/
def execIm2 (_y : BitVec 3) (s : State) : Result := done 8 ((s.fetch 2 2).setCtl { s.ctl with im := .mode2 })

/-- `NOP* (undefined ED, x=0)` (R377). -/
def execNopEd0 (op : BitVec 6) (s : State) : Result := undefinedEd (opLow6 0 op) s

/-- `NOP* (undefined ED, x=3)` (R377). -/
def execNopEd3 (op : BitVec 6) (s : State) : Result := undefinedEd (opLow6 3 op) s

/-- `NOP* (undefined ED, 0x77/0x7F)` (R377). -/
def execNopEd7 (y0 : Bool) (s : State) : Result := undefinedEd (if y0 then 0x7F else 0x77) s

/-- `NOP* (undefined ED, x=2 non-block)` (R377). -/
def execNopEd2 (op : BitVec 6) (s : State) : Result := undefinedEd (opLow6 2 op) s

/-- `NOP* (lone DD prefix)` (R378). -/
def execLoneDd (s : State) : Result := lonePrefix 0xDD s

/-- `NOP* (lone FD prefix)` (R378). -/
def execLoneFd (s : State) : Result := lonePrefix 0xFD s

end Sys2Proof.Machine
end

