-- ==== Sys2Proof/Machine/InOut.lean ====
section
/-! DEFINITION. Input and output (47_io). -/

namespace Sys2Proof.Machine

/-- `IN A,(n)` (R352). -/
def execInAN (n : Byte) (s : State) : Result :=
  done 11 (((s.fetch 2 1).ioReadDone (join s.main.a n)).setA (s.ioAnswer (join s.main.a n)))

/-- `IN r,(C)` (R353). -/
def execInR (r : Reg8) (s : State) : Result :=
  done 12 ((((s.fetch 2 2).ioReadDone s.bc).setReg r (s.ioAnswer s.bc)).setF (szypFlags s.main.f (s.ioAnswer s.bc)))

/-- `IN (C)` (R354). -/
def execInFlags (s : State) : Result := done 12 (((s.fetch 2 2).ioReadDone s.bc).setF (szypFlags s.main.f (s.ioAnswer s.bc)))

/-- `OUT (n),A` (R355). -/
def execOutNA (n : Byte) (s : State) : Result := done 11 ((s.fetch 2 1).ioWrite (join s.main.a n) s.main.a)

/-- `OUT (C),r` (R356). -/
def execOutR (r : Reg8) (s : State) : Result := done 12 ((s.fetch 2 2).ioWrite s.bc (s.reg r))

/-- `OUT (C),0` (R357). -/
def execOutZero (s : State) : Result := done 12 ((s.fetch 2 2).ioWrite s.bc 0)

end Sys2Proof.Machine
end

