-- ==== Sys2Proof/Machine/Load16.lean ====
section
/-! DEFINITION. 16-bit loads, stack operations and exchanges (41_load16_exchange). -/

namespace Sys2Proof.Machine

/-- LD XY,nn (R181). -/
def ldXyNn (x : Idx) (nn : Word) (s : State) : Result := done 14 ((s.fetch 4 2).setXy x nn)

/-- LD XY,(nn) (R183). -/
def ldXyAtNn (x : Idx) (nn : Word) (s : State) : Result := done 20 ((s.fetch 4 2).setXy x (s.read16 nn))

/-- LD (nn),XY (R186). -/
def ldAtNnXy (x : Idx) (nn : Word) (s : State) : Result := finish 20 ((s.fetch 4 2).write16 nn (s.xy x))

/-- LD SP,XY (R189). -/
def ldSpXy (x : Idx) (s : State) : Result := done 10 ((s.fetch 2 2).setSp (s.xy x))

/-- PUSH XY (R191). -/
def pushXy (x : Idx) (s : State) : Result := finish 15 ((s.fetch 2 2).push16 (s.xy x))

/-- POP XY (R193). -/
def popXy (x : Idx) (s : State) : Result := done 14 ((s.fetch 2 2).popped.setXy x s.top16)

/-- EX (SP),XY (R198): the word is read before the writes. -/
def exAtSpXy (x : Idx) (s : State) : Result :=
  andThen ((s.fetch 2 2).write16 s.sp (s.xy x)) fun s1 => done 23 (s1.setXy x s.top16)

/-- `LD dd,nn` (R180). -/
def execLdDdNn (dd : Pair) (nn : Word) (s : State) : Result := done 10 ((s.fetch 3 1).setPair dd nn)

/-- `LD HL,(nn)` (R182). -/
def execLdHlAtNn (nn : Word) (s : State) : Result := done 16 ((s.fetch 3 1).setHl (s.read16 nn))

/-- `LD dd,(nn)` (R184). -/
def execLdDdAtNn (dd : Pair) (nn : Word) (s : State) : Result := done 20 ((s.fetch 4 2).setPair dd (s.read16 nn))

/-- `LD (nn),HL` (R185). -/
def execLdAtNnHl (nn : Word) (s : State) : Result := finish 16 ((s.fetch 3 1).write16 nn s.hl)

/-- `LD (nn),dd` (R187). -/
def execLdAtNnDd (nn : Word) (dd : Pair) (s : State) : Result := finish 20 ((s.fetch 4 2).write16 nn (s.pair dd))

/-- `LD SP,HL` (R188). -/
def execLdSpHl (s : State) : Result := done 6 ((s.fetch 1 1).setSp s.hl)

/-- `PUSH qq` (R190). -/
def execPushQq (qq : PairQ) (s : State) : Result := finish 11 ((s.fetch 1 1).push16 (s.pairQ qq))

/-- `POP qq` (R192). -/
def execPopQq (qq : PairQ) (s : State) : Result := done 10 ((s.fetch 1 1).popped.setPairQ qq s.top16)

/-- `EX DE,HL` (R194). -/
def execExDeHl (s : State) : Result := done 4 ((s.fetch 1 1).setMain ((s.main.setDe s.hl).setHl s.de))

/-- `EX AF,AF'` (R195). -/
def execExAfAf (s : State) : Result :=
  done 4 (((s.fetch 1 1).setMain { s.main with a := s.alt.a, f := s.alt.f }).setAlt { s.alt with a := s.main.a, f := s.main.f })

/-- `EXX` (R196). -/
def execExx (s : State) : Result :=
  done 4 (((s.fetch 1 1).setMain { s.alt with a := s.main.a, f := s.main.f }).setAlt { s.main with a := s.alt.a, f := s.alt.f })

/-- `EX (SP),HL` (R197). The word is read before the writes. -/
def execExAtSpHl (s : State) : Result := andThen ((s.fetch 1 1).write16 s.sp s.hl) fun s1 => done 19 (s1.setHl s.top16)

/-- `LD IX,nn` (R181). -/
def execLdIxNn (nn : Word) (s : State) : Result := ldXyNn .ix nn s

/-- `LD IX,(nn)` (R183). -/
def execLdIxAtNn (nn : Word) (s : State) : Result := ldXyAtNn .ix nn s

/-- `LD (nn),IX` (R186). -/
def execLdAtNnIx (nn : Word) (s : State) : Result := ldAtNnXy .ix nn s

/-- `LD SP,IX` (R189). -/
def execLdSpIx (s : State) : Result := ldSpXy .ix s

/-- `PUSH IX` (R191). -/
def execPushIx (s : State) : Result := pushXy .ix s

/-- `POP IX` (R193). -/
def execPopIx (s : State) : Result := popXy .ix s

/-- `EX (SP),IX` (R198). -/
def execExAtSpIx (s : State) : Result := exAtSpXy .ix s

/-- `LD IY,nn` (R181). -/
def execLdIyNn (nn : Word) (s : State) : Result := ldXyNn .iy nn s

/-- `LD IY,(nn)` (R183). -/
def execLdIyAtNn (nn : Word) (s : State) : Result := ldXyAtNn .iy nn s

/-- `LD (nn),IY` (R186). -/
def execLdAtNnIy (nn : Word) (s : State) : Result := ldAtNnXy .iy nn s

/-- `LD SP,IY` (R189). -/
def execLdSpIy (s : State) : Result := ldSpXy .iy s

/-- `PUSH IY` (R191). -/
def execPushIy (s : State) : Result := pushXy .iy s

/-- `POP IY` (R193). -/
def execPopIy (s : State) : Result := popXy .iy s

/-- `EX (SP),IY` (R198). -/
def execExAtSpIy (s : State) : Result := exAtSpXy .iy s

end Sys2Proof.Machine
end

