-- ==== Sys2Proof/Machine/RotateBit.lean ====
section
/-! DEFINITION. Rotates, shifts and bit operations (45_rotate_bit). -/

namespace Sys2Proof.Machine

/-- Write back to memory and, in the undocumented copy form, to a register as well (R294; the copy is made whether or not the memory write
is dropped, D49). -/
def State.writeBack (s : State) (addr : Word) (copy : Option Reg8) (v : Byte) : Result :=
  andThen (s.write8 addr v) fun s1 =>
    match copy with
    | none => .next s1
    | some r => .next (s1.setReg r v)

/-- A rotate or shift of a register (R294, form `op r`). -/
def rotR (op : RotOp) (r : Reg8) (s : State) : Result :=
  done 8 (((s.fetch 2 2).setReg r (rotResult op (s.reg r) (flagC s.main.f))).setF
    (rotFlags op (s.reg r) (flagC s.main.f)))

/-- A rotate or shift of the byte at addr, after the fetch (R294, the memory forms). -/
def State.rotAt (s : State) (op : RotOp) (addr : Word) (copy : Option Reg8) (t : Nat) : Result :=
  andThen (s.writeBack addr copy (rotResult op (s.read8 addr) (flagC s.main.f))) fun s1 =>
    done t (s1.setF (rotFlags op (s.read8 addr) (flagC s.main.f)))

/-- BIT b,(XY+d) (R305): Y and X from the high byte of the address. -/
def bitAtXy (x : Idx) (b : BitVec 3) (d : Byte) (s : State) : Result :=
  done 20 ((s.fetch 4 2).setF
    (bitFlags s.main.f (s.read8 (s.ea x d)) b ((s.ea x d).getLsbD 13) ((s.ea x d).getLsbD 11)))

/-- SET or RES of the byte at addr, after the fetch (R306, R307, the memory forms). -/
def State.modifyAt (s : State) (f : Byte → Byte) (addr : Word) (copy : Option Reg8) (t : Nat) : Result :=
  andThen (s.writeBack addr copy (f (s.read8 addr))) (done t)

/-- `RLCA` (R290). -/
def execRlca (s : State) : Result :=
  done 4 ((s.fetch 1 1).setAF (rotResult .rlc s.main.a (flagC s.main.f)) (rotAFlags s.main.f (rotResult .rlc s.main.a (flagC s.main.f)) (rotCarry .rlc s.main.a)))

/-- `RRCA` (R291). -/
def execRrca (s : State) : Result :=
  done 4 ((s.fetch 1 1).setAF (rotResult .rrc s.main.a (flagC s.main.f)) (rotAFlags s.main.f (rotResult .rrc s.main.a (flagC s.main.f)) (rotCarry .rrc s.main.a)))

/-- `RLA` (R292). -/
def execRla (s : State) : Result :=
  done 4 ((s.fetch 1 1).setAF (rotResult .rl s.main.a (flagC s.main.f)) (rotAFlags s.main.f (rotResult .rl s.main.a (flagC s.main.f)) (rotCarry .rl s.main.a)))

/-- `RRA` (R293). -/
def execRra (s : State) : Result :=
  done 4 ((s.fetch 1 1).setAF (rotResult .rr s.main.a (flagC s.main.f)) (rotAFlags s.main.f (rotResult .rr s.main.a (flagC s.main.f)) (rotCarry .rr s.main.a)))

/-- `RLC r` (R295). -/
def execRlcR (r : Reg8) (s : State) : Result := rotR .rlc r s

/-- `RLC (HL)` (R295). -/
def execRlcAtHl (s : State) : Result := (s.fetch 2 2).rotAt .rlc s.hl none 15

/-- `RRC r` (R296). -/
def execRrcR (r : Reg8) (s : State) : Result := rotR .rrc r s

/-- `RRC (HL)` (R296). -/
def execRrcAtHl (s : State) : Result := (s.fetch 2 2).rotAt .rrc s.hl none 15

/-- `RL r` (R297). -/
def execRlR (r : Reg8) (s : State) : Result := rotR .rl r s

/-- `RL (HL)` (R297). -/
def execRlAtHl (s : State) : Result := (s.fetch 2 2).rotAt .rl s.hl none 15

/-- `RR r` (R298). -/
def execRrR (r : Reg8) (s : State) : Result := rotR .rr r s

/-- `RR (HL)` (R298). -/
def execRrAtHl (s : State) : Result := (s.fetch 2 2).rotAt .rr s.hl none 15

/-- `SLA r` (R299). -/
def execSlaR (r : Reg8) (s : State) : Result := rotR .sla r s

/-- `SLA (HL)` (R299). -/
def execSlaAtHl (s : State) : Result := (s.fetch 2 2).rotAt .sla s.hl none 15

/-- `SRA r` (R300). -/
def execSraR (r : Reg8) (s : State) : Result := rotR .sra r s

/-- `SRA (HL)` (R300). -/
def execSraAtHl (s : State) : Result := (s.fetch 2 2).rotAt .sra s.hl none 15

/-- `SLL r` (R301). -/
def execSllR (r : Reg8) (s : State) : Result := rotR .sll r s

/-- `SLL (HL)` (R301). -/
def execSllAtHl (s : State) : Result := (s.fetch 2 2).rotAt .sll s.hl none 15

/-- `SRL r` (R302). -/
def execSrlR (r : Reg8) (s : State) : Result := rotR .srl r s

/-- `SRL (HL)` (R302). -/
def execSrlAtHl (s : State) : Result := (s.fetch 2 2).rotAt .srl s.hl none 15

/-- `BIT b,r` (R303). -/
def execBitR (b : BitVec 3) (r : Reg8) (s : State) : Result :=
  done 8 ((s.fetch 2 2).setF (bitFlags s.main.f (s.reg r) b ((s.reg r).getLsbD 5) ((s.reg r).getLsbD 3)))

/-- `BIT b,(HL)` (R304). Y and X are free values. -/
def execBitAtHl (b : BitVec 3) (s : State) : Result :=
  done 12 (((s.fetch 2 2).setF (drawBits (bitFlags s.main.f (s.read8 s.hl) b false false) maskYx s.freeByte)).drawn)

/-- `RES b,r` (R307). -/
def execResR (b : BitVec 3) (r : Reg8) (s : State) : Result := done 8 ((s.fetch 2 2).setReg r (resBit (s.reg r) b))

/-- `RES b,(HL)` (R307). -/
def execResAtHl (b : BitVec 3) (s : State) : Result := (s.fetch 2 2).modifyAt (fun v => resBit v b) s.hl none 15

/-- `SET b,r` (R306). -/
def execSetR (b : BitVec 3) (r : Reg8) (s : State) : Result := done 8 ((s.fetch 2 2).setReg r (setBit (s.reg r) b))

/-- `SET b,(HL)` (R306). -/
def execSetAtHl (b : BitVec 3) (s : State) : Result := (s.fetch 2 2).modifyAt (fun v => setBit v b) s.hl none 15

/-- `RLC (IX+d)` (R295). -/
def execRlcAtIx (d : Byte) (s : State) : Result := (s.fetch 4 2).rotAt .rlc (s.ea .ix d) none 23

/-- `RLC (IX+d),r` (R295). -/
def execRlcAtIxR (d : Byte) (r : Reg8) (s : State) : Result := (s.fetch 4 2).rotAt .rlc (s.ea .ix d) (some r) 23

/-- `RRC (IX+d)` (R296). -/
def execRrcAtIx (d : Byte) (s : State) : Result := (s.fetch 4 2).rotAt .rrc (s.ea .ix d) none 23

/-- `RRC (IX+d),r` (R296). -/
def execRrcAtIxR (d : Byte) (r : Reg8) (s : State) : Result := (s.fetch 4 2).rotAt .rrc (s.ea .ix d) (some r) 23

/-- `RL (IX+d)` (R297). -/
def execRlAtIx (d : Byte) (s : State) : Result := (s.fetch 4 2).rotAt .rl (s.ea .ix d) none 23

/-- `RL (IX+d),r` (R297). -/
def execRlAtIxR (d : Byte) (r : Reg8) (s : State) : Result := (s.fetch 4 2).rotAt .rl (s.ea .ix d) (some r) 23

/-- `RR (IX+d)` (R298). -/
def execRrAtIx (d : Byte) (s : State) : Result := (s.fetch 4 2).rotAt .rr (s.ea .ix d) none 23

/-- `RR (IX+d),r` (R298). -/
def execRrAtIxR (d : Byte) (r : Reg8) (s : State) : Result := (s.fetch 4 2).rotAt .rr (s.ea .ix d) (some r) 23

/-- `SLA (IX+d)` (R299). -/
def execSlaAtIx (d : Byte) (s : State) : Result := (s.fetch 4 2).rotAt .sla (s.ea .ix d) none 23

/-- `SLA (IX+d),r` (R299). -/
def execSlaAtIxR (d : Byte) (r : Reg8) (s : State) : Result := (s.fetch 4 2).rotAt .sla (s.ea .ix d) (some r) 23

/-- `SRA (IX+d)` (R300). -/
def execSraAtIx (d : Byte) (s : State) : Result := (s.fetch 4 2).rotAt .sra (s.ea .ix d) none 23

/-- `SRA (IX+d),r` (R300). -/
def execSraAtIxR (d : Byte) (r : Reg8) (s : State) : Result := (s.fetch 4 2).rotAt .sra (s.ea .ix d) (some r) 23

/-- `SLL (IX+d)` (R301). -/
def execSllAtIx (d : Byte) (s : State) : Result := (s.fetch 4 2).rotAt .sll (s.ea .ix d) none 23

/-- `SLL (IX+d),r` (R301). -/
def execSllAtIxR (d : Byte) (r : Reg8) (s : State) : Result := (s.fetch 4 2).rotAt .sll (s.ea .ix d) (some r) 23

/-- `SRL (IX+d)` (R302). -/
def execSrlAtIx (d : Byte) (s : State) : Result := (s.fetch 4 2).rotAt .srl (s.ea .ix d) none 23

/-- `SRL (IX+d),r` (R302). -/
def execSrlAtIxR (d : Byte) (r : Reg8) (s : State) : Result := (s.fetch 4 2).rotAt .srl (s.ea .ix d) (some r) 23

/-- `BIT b,(IX+d)` (R305). For every z. -/
def execBitAtIx (b : BitVec 3) (d : Byte) (_z : BitVec 3) (s : State) : Result := bitAtXy .ix b d s

/-- `RES b,(IX+d)` (R307). -/
def execResAtIx (b : BitVec 3) (d : Byte) (s : State) : Result :=
  (s.fetch 4 2).modifyAt (fun v => resBit v b) (s.ea .ix d) none 23

/-- `RES b,(IX+d),r` (R307). -/
def execResAtIxR (b : BitVec 3) (d : Byte) (r : Reg8) (s : State) : Result :=
  (s.fetch 4 2).modifyAt (fun v => resBit v b) (s.ea .ix d) (some r) 23

/-- `SET b,(IX+d)` (R306). -/
def execSetAtIx (b : BitVec 3) (d : Byte) (s : State) : Result :=
  (s.fetch 4 2).modifyAt (fun v => setBit v b) (s.ea .ix d) none 23

/-- `SET b,(IX+d),r` (R306). -/
def execSetAtIxR (b : BitVec 3) (d : Byte) (r : Reg8) (s : State) : Result :=
  (s.fetch 4 2).modifyAt (fun v => setBit v b) (s.ea .ix d) (some r) 23

/-- `RLC (IY+d)` (R295). -/
def execRlcAtIy (d : Byte) (s : State) : Result := (s.fetch 4 2).rotAt .rlc (s.ea .iy d) none 23

/-- `RLC (IY+d),r` (R295). -/
def execRlcAtIyR (d : Byte) (r : Reg8) (s : State) : Result := (s.fetch 4 2).rotAt .rlc (s.ea .iy d) (some r) 23

/-- `RRC (IY+d)` (R296). -/
def execRrcAtIy (d : Byte) (s : State) : Result := (s.fetch 4 2).rotAt .rrc (s.ea .iy d) none 23

/-- `RRC (IY+d),r` (R296). -/
def execRrcAtIyR (d : Byte) (r : Reg8) (s : State) : Result := (s.fetch 4 2).rotAt .rrc (s.ea .iy d) (some r) 23

/-- `RL (IY+d)` (R297). -/
def execRlAtIy (d : Byte) (s : State) : Result := (s.fetch 4 2).rotAt .rl (s.ea .iy d) none 23

/-- `RL (IY+d),r` (R297). -/
def execRlAtIyR (d : Byte) (r : Reg8) (s : State) : Result := (s.fetch 4 2).rotAt .rl (s.ea .iy d) (some r) 23

/-- `RR (IY+d)` (R298). -/
def execRrAtIy (d : Byte) (s : State) : Result := (s.fetch 4 2).rotAt .rr (s.ea .iy d) none 23

/-- `RR (IY+d),r` (R298). -/
def execRrAtIyR (d : Byte) (r : Reg8) (s : State) : Result := (s.fetch 4 2).rotAt .rr (s.ea .iy d) (some r) 23

/-- `SLA (IY+d)` (R299). -/
def execSlaAtIy (d : Byte) (s : State) : Result := (s.fetch 4 2).rotAt .sla (s.ea .iy d) none 23

/-- `SLA (IY+d),r` (R299). -/
def execSlaAtIyR (d : Byte) (r : Reg8) (s : State) : Result := (s.fetch 4 2).rotAt .sla (s.ea .iy d) (some r) 23

/-- `SRA (IY+d)` (R300). -/
def execSraAtIy (d : Byte) (s : State) : Result := (s.fetch 4 2).rotAt .sra (s.ea .iy d) none 23

/-- `SRA (IY+d),r` (R300). -/
def execSraAtIyR (d : Byte) (r : Reg8) (s : State) : Result := (s.fetch 4 2).rotAt .sra (s.ea .iy d) (some r) 23

/-- `SLL (IY+d)` (R301). -/
def execSllAtIy (d : Byte) (s : State) : Result := (s.fetch 4 2).rotAt .sll (s.ea .iy d) none 23

/-- `SLL (IY+d),r` (R301). -/
def execSllAtIyR (d : Byte) (r : Reg8) (s : State) : Result := (s.fetch 4 2).rotAt .sll (s.ea .iy d) (some r) 23

/-- `SRL (IY+d)` (R302). -/
def execSrlAtIy (d : Byte) (s : State) : Result := (s.fetch 4 2).rotAt .srl (s.ea .iy d) none 23

/-- `SRL (IY+d),r` (R302). -/
def execSrlAtIyR (d : Byte) (r : Reg8) (s : State) : Result := (s.fetch 4 2).rotAt .srl (s.ea .iy d) (some r) 23

/-- `BIT b,(IY+d)` (R305). For every z. -/
def execBitAtIy (b : BitVec 3) (d : Byte) (_z : BitVec 3) (s : State) : Result := bitAtXy .iy b d s

/-- `RES b,(IY+d)` (R307). -/
def execResAtIy (b : BitVec 3) (d : Byte) (s : State) : Result :=
  (s.fetch 4 2).modifyAt (fun v => resBit v b) (s.ea .iy d) none 23

/-- `RES b,(IY+d),r` (R307). -/
def execResAtIyR (b : BitVec 3) (d : Byte) (r : Reg8) (s : State) : Result :=
  (s.fetch 4 2).modifyAt (fun v => resBit v b) (s.ea .iy d) (some r) 23

/-- `SET b,(IY+d)` (R306). -/
def execSetAtIy (b : BitVec 3) (d : Byte) (s : State) : Result :=
  (s.fetch 4 2).modifyAt (fun v => setBit v b) (s.ea .iy d) none 23

/-- `SET b,(IY+d),r` (R306). -/
def execSetAtIyR (b : BitVec 3) (d : Byte) (r : Reg8) (s : State) : Result :=
  (s.fetch 4 2).modifyAt (fun v => setBit v b) (s.ea .iy d) (some r) 23

/-- What RLD and RRD leave in A: its high digit and the given low digit (R308, R309). -/
def digitA (a : Byte) (digit : BitVec 4) : Byte := a.extractLsb' 4 4 ++ digit

/-- RLD and RRD: write m at (HL), then A and F (R308, R309). -/
def digitRotate (m : Byte) (digit : BitVec 4) (s : State) : Result :=
  andThen ((s.fetch 2 2).write8 s.hl m) fun s1 =>
    done 18 (s1.setAF (digitA s.main.a digit) (szypFlags s.main.f (digitA s.main.a digit)))

/-- `RLD` (R308). -/
def execRld (s : State) : Result :=
  digitRotate ((s.read8 s.hl).extractLsb' 0 4 ++ s.main.a.extractLsb' 0 4) ((s.read8 s.hl).extractLsb' 4 4) s

/-- `RRD` (R309). -/
def execRrd (s : State) : Result :=
  digitRotate (s.main.a.extractLsb' 0 4 ++ (s.read8 s.hl).extractLsb' 4 4) ((s.read8 s.hl).extractLsb' 0 4) s

end Sys2Proof.Machine
end

