-- ==== Sys2Proof/Machine/Prefix.lean ====
section
/-! DEFINITION. The prefix rows of the opcode table and the ignored prefix (30_encoding R118 to R127; 48_cpu_control R379). -/

namespace Sys2Proof.Machine

/-- Run a row that stands for itself: every row but the prefixes and the ignored prefix. -/
def runRow (i : Instr) (s : State) : Result :=
  match i with
  | .nop => execNop s
  | .exAfAf => execExAfAf s
  | .djnz e => execDjnz e s
  | .jr e => execJr e s
  | .jrCc cc e => execJrCc cc e s
  | .ldDdNn dd nn => execLdDdNn dd nn s
  | .addHlSs ss => execAddHlSs ss s
  | .ldAtBcA => execLdAtBcA s
  | .ldAtDeA => execLdAtDeA s
  | .ldAtNnHl nn => execLdAtNnHl nn s
  | .ldAtNnA nn => execLdAtNnA nn s
  | .ldAAtBc => execLdAAtBc s
  | .ldAAtDe => execLdAAtDe s
  | .ldHlAtNn nn => execLdHlAtNn nn s
  | .ldAAtNn nn => execLdAAtNn nn s
  | .incSs ss => execIncSs ss s
  | .decSs ss => execDecSs ss s
  | .incR r => execIncR r s
  | .incAtHl => execIncAtHl s
  | .decR r => execDecR r s
  | .decAtHl => execDecAtHl s
  | .ldRN r n => execLdRN r n s
  | .ldAtHlN n => execLdAtHlN n s
  | .rlca => execRlca s
  | .rrca => execRrca s
  | .rla => execRla s
  | .rra => execRra s
  | .daa => execDaa s
  | .cpl => execCpl s
  | .scf => execScf s
  | .ccf => execCcf s
  | .ldRR r r2 => execLdRR r r2 s
  | .ldRAtHl r => execLdRAtHl r s
  | .ldAtHlR r => execLdAtHlR r s
  | .halt => execHalt s
  | .addR r => execAddR r s
  | .addAtHl => execAddAtHl s
  | .addN n => execAddN n s
  | .adcR r => execAdcR r s
  | .adcAtHl => execAdcAtHl s
  | .adcN n => execAdcN n s
  | .subR r => execSubR r s
  | .subAtHl => execSubAtHl s
  | .subN n => execSubN n s
  | .sbcR r => execSbcR r s
  | .sbcAtHl => execSbcAtHl s
  | .sbcN n => execSbcN n s
  | .andR r => execAndR r s
  | .andAtHl => execAndAtHl s
  | .andN n => execAndN n s
  | .xorR r => execXorR r s
  | .xorAtHl => execXorAtHl s
  | .xorN n => execXorN n s
  | .orR r => execOrR r s
  | .orAtHl => execOrAtHl s
  | .orN n => execOrN n s
  | .cpR r => execCpR r s
  | .cpAtHl => execCpAtHl s
  | .cpN n => execCpN n s
  | .retCc cc => execRetCc cc s
  | .popQq qq => execPopQq qq s
  | .ret => execRet s
  | .exx => execExx s
  | .jpHl => execJpHl s
  | .ldSpHl => execLdSpHl s
  | .jpCcNn cc nn => execJpCcNn cc nn s
  | .jpNn nn => execJpNn nn s
  | .outNA n => execOutNA n s
  | .inAN n => execInAN n s
  | .exAtSpHl => execExAtSpHl s
  | .exDeHl => execExDeHl s
  | .di => execDi s
  | .ei => execEi s
  | .callCcNn cc nn => execCallCcNn cc nn s
  | .pushQq qq => execPushQq qq s
  | .callNn nn => execCallNn nn s
  | .rst p => execRst p s
  | .rlcR r => execRlcR r s
  | .rlcAtHl => execRlcAtHl s
  | .rrcR r => execRrcR r s
  | .rrcAtHl => execRrcAtHl s
  | .rlR r => execRlR r s
  | .rlAtHl => execRlAtHl s
  | .rrR r => execRrR r s
  | .rrAtHl => execRrAtHl s
  | .slaR r => execSlaR r s
  | .slaAtHl => execSlaAtHl s
  | .sraR r => execSraR r s
  | .sraAtHl => execSraAtHl s
  | .sllR r => execSllR r s
  | .sllAtHl => execSllAtHl s
  | .srlR r => execSrlR r s
  | .srlAtHl => execSrlAtHl s
  | .bitR b r => execBitR b r s
  | .bitAtHl b => execBitAtHl b s
  | .resR b r => execResR b r s
  | .resAtHl b => execResAtHl b s
  | .setR b r => execSetR b r s
  | .setAtHl b => execSetAtHl b s
  | .inR r => execInR r s
  | .inFlags => execInFlags s
  | .outR r => execOutR r s
  | .outZero => execOutZero s
  | .sbcHlSs ss => execSbcHlSs ss s
  | .adcHlSs ss => execAdcHlSs ss s
  | .ldAtNnDd nn dd => execLdAtNnDd nn dd s
  | .ldDdAtNn dd nn => execLdDdAtNn dd nn s
  | .neg y => execNeg y s
  | .retn y => execRetn y s
  | .reti => execReti s
  | .im0 y => execIm0 y s
  | .im1 y => execIm1 y s
  | .im2 y => execIm2 y s
  | .ldIA => execLdIA s
  | .ldRA => execLdRA s
  | .ldAI => execLdAI s
  | .ldAR => execLdAR s
  | .rrd => execRrd s
  | .rld => execRld s
  | .ldi => execLdi s
  | .cpi => execCpi s
  | .ini => execIni s
  | .outi => execOuti s
  | .ldd => execLdd s
  | .cpd => execCpd s
  | .ind => execInd s
  | .outd => execOutd s
  | .ldir => execLdir s
  | .cpir => execCpir s
  | .inir => execInir s
  | .otir => execOtir s
  | .lddr => execLddr s
  | .cpdr => execCpdr s
  | .indr => execIndr s
  | .otdr => execOtdr s
  | .nopEd0 op => execNopEd0 op s
  | .nopEd3 op => execNopEd3 op s
  | .nopEd7 y0 => execNopEd7 y0 s
  | .nopEd2 op => execNopEd2 op s
  | .ldIxNn nn => execLdIxNn nn s
  | .ldAtNnIx nn => execLdAtNnIx nn s
  | .incIx => execIncIx s
  | .ldIxAtNn nn => execLdIxAtNn nn s
  | .decIx => execDecIx s
  | .addIxPp pp => execAddIxPp pp s
  | .incIxHalf x => execIncIxHalf x s
  | .decIxHalf x => execDecIxHalf x s
  | .ldIxHalfN x n => execLdIxHalfN x n s
  | .incAtIx d => execIncAtIx d s
  | .decAtIx d => execDecAtIx d s
  | .ldAtIxN d n => execLdAtIxN d n s
  | .ldRAtIx r d => execLdRAtIx r d s
  | .ldAtIxR d r => execLdAtIxR d r s
  | .ldRRIx r r2 => execLdRRIx r r2 s
  | .addIxHalf x => execAddIxHalf x s
  | .addAtIx d => execAddAtIx d s
  | .adcIxHalf x => execAdcIxHalf x s
  | .adcAtIx d => execAdcAtIx d s
  | .subIxHalf x => execSubIxHalf x s
  | .subAtIx d => execSubAtIx d s
  | .sbcIxHalf x => execSbcIxHalf x s
  | .sbcAtIx d => execSbcAtIx d s
  | .andIxHalf x => execAndIxHalf x s
  | .andAtIx d => execAndAtIx d s
  | .xorIxHalf x => execXorIxHalf x s
  | .xorAtIx d => execXorAtIx d s
  | .orIxHalf x => execOrIxHalf x s
  | .orAtIx d => execOrAtIx d s
  | .cpIxHalf x => execCpIxHalf x s
  | .cpAtIx d => execCpAtIx d s
  | .popIx => execPopIx s
  | .exAtSpIx => execExAtSpIx s
  | .pushIx => execPushIx s
  | .jpIx => execJpIx s
  | .ldSpIx => execLdSpIx s
  | .loneDd => execLoneDd s
  | .rlcAtIx d => execRlcAtIx d s
  | .rlcAtIxR d r => execRlcAtIxR d r s
  | .rrcAtIx d => execRrcAtIx d s
  | .rrcAtIxR d r => execRrcAtIxR d r s
  | .rlAtIx d => execRlAtIx d s
  | .rlAtIxR d r => execRlAtIxR d r s
  | .rrAtIx d => execRrAtIx d s
  | .rrAtIxR d r => execRrAtIxR d r s
  | .slaAtIx d => execSlaAtIx d s
  | .slaAtIxR d r => execSlaAtIxR d r s
  | .sraAtIx d => execSraAtIx d s
  | .sraAtIxR d r => execSraAtIxR d r s
  | .sllAtIx d => execSllAtIx d s
  | .sllAtIxR d r => execSllAtIxR d r s
  | .srlAtIx d => execSrlAtIx d s
  | .srlAtIxR d r => execSrlAtIxR d r s
  | .bitAtIx b d z => execBitAtIx b d z s
  | .resAtIx b d => execResAtIx b d s
  | .resAtIxR b d r => execResAtIxR b d r s
  | .setAtIx b d => execSetAtIx b d s
  | .setAtIxR b d r => execSetAtIxR b d r s
  | .ldIyNn nn => execLdIyNn nn s
  | .ldAtNnIy nn => execLdAtNnIy nn s
  | .incIy => execIncIy s
  | .ldIyAtNn nn => execLdIyAtNn nn s
  | .decIy => execDecIy s
  | .addIyPp pp => execAddIyPp pp s
  | .incIyHalf x => execIncIyHalf x s
  | .decIyHalf x => execDecIyHalf x s
  | .ldIyHalfN x n => execLdIyHalfN x n s
  | .incAtIy d => execIncAtIy d s
  | .decAtIy d => execDecAtIy d s
  | .ldAtIyN d n => execLdAtIyN d n s
  | .ldRAtIy r d => execLdRAtIy r d s
  | .ldAtIyR d r => execLdAtIyR d r s
  | .ldRRIy r r2 => execLdRRIy r r2 s
  | .addIyHalf x => execAddIyHalf x s
  | .addAtIy d => execAddAtIy d s
  | .adcIyHalf x => execAdcIyHalf x s
  | .adcAtIy d => execAdcAtIy d s
  | .subIyHalf x => execSubIyHalf x s
  | .subAtIy d => execSubAtIy d s
  | .sbcIyHalf x => execSbcIyHalf x s
  | .sbcAtIy d => execSbcAtIy d s
  | .andIyHalf x => execAndIyHalf x s
  | .andAtIy d => execAndAtIy d s
  | .xorIyHalf x => execXorIyHalf x s
  | .xorAtIy d => execXorAtIy d s
  | .orIyHalf x => execOrIyHalf x s
  | .orAtIy d => execOrAtIy d s
  | .cpIyHalf x => execCpIyHalf x s
  | .cpAtIy d => execCpAtIy d s
  | .popIy => execPopIy s
  | .exAtSpIy => execExAtSpIy s
  | .pushIy => execPushIy s
  | .jpIy => execJpIy s
  | .ldSpIy => execLdSpIy s
  | .loneFd => execLoneFd s
  | .rlcAtIy d => execRlcAtIy d s
  | .rlcAtIyR d r => execRlcAtIyR d r s
  | .rrcAtIy d => execRrcAtIy d s
  | .rrcAtIyR d r => execRrcAtIyR d r s
  | .rlAtIy d => execRlAtIy d s
  | .rlAtIyR d r => execRlAtIyR d r s
  | .rrAtIy d => execRrAtIy d s
  | .rrAtIyR d r => execRrAtIyR d r s
  | .slaAtIy d => execSlaAtIy d s
  | .slaAtIyR d r => execSlaAtIyR d r s
  | .sraAtIy d => execSraAtIy d s
  | .sraAtIyR d r => execSraAtIyR d r s
  | .sllAtIy d => execSllAtIy d s
  | .sllAtIyR d r => execSllAtIyR d r s
  | .srlAtIy d => execSrlAtIy d s
  | .srlAtIyR d r => execSrlAtIyR d r s
  | .bitAtIy b d z => execBitAtIy b d z s
  | .resAtIy b d => execResAtIy b d s
  | .resAtIyR b d r => execResAtIyR b d r s
  | .setAtIy b d => execSetAtIy b d s
  | .setAtIyR b d r => execSetAtIyR b d r s
  | .prefixCb _ => .refused .illFormed
  | .prefixDd _ _ _ => .refused .illFormed
  | .prefixEd _ _ _ => .refused .illFormed
  | .prefixFd _ _ _ => .refused .illFormed
  | .prefixDdCb _ _ => .refused .illFormed
  | .ignoredDd _ => .refused .illFormed
  | .prefixFdCb _ _ => .refused .illFormed
  | .ignoredFd _ => .refused .illFormed

/-- A DD or FD prefix before a base-table instruction it does not affect (R379): that instruction from the next byte on, 4 T-states and one
M1 cycle more, then the message. -/
def ignoredPrefix (pfx : Byte) (base : Instr) (s : State) : Result :=
  if base.ignoresIndex then
    andThen (runRow base (s.fetch 1 1)) fun s1 =>
      done 4 (s1.emitIf s.params.logUndefined (.undefinedOpcode s.pc [pfx, base.opcode]))
  else .refused .illFormed

/-- `(ignored DD prefix) + base instruction` (R379). The base instruction, one byte later. -/
def execIgnoredDd (base : Instr) (s : State) : Result := ignoredPrefix 0xDD base s

/-- `(ignored FD prefix) + base instruction` (R379). The base instruction, one byte later. -/
def execIgnoredFd (base : Instr) (s : State) : Result := ignoredPrefix 0xFD base s

/-- Run a row that a table selects. -/
def runSelected (i : Instr) (s : State) : Result :=
  match i with
  | .ignoredDd base => execIgnoredDd base s
  | .ignoredFd base => execIgnoredFd base s
  | i => runRow i s

/-- `(prefix CB)` (R119). The prefix and the byte behind it: the row of the CB table that byte selects. -/
def execPrefixCb (op : Byte) (s : State) : Result := runSelected (decodeCb op) s

/-- `(prefix DD)` (R121). The row of the DD table that the bytes behind the prefix select. -/
def execPrefixDd (b1 : Byte) (b2 : Byte) (b3 : Byte) (s : State) : Result := runSelected (decodeXy .ix b1 b2 b3) s

/-- `(prefix ED)` (R120). The row of the ED table that the bytes behind the prefix select. -/
def execPrefixEd (b1 : Byte) (b2 : Byte) (b3 : Byte) (s : State) : Result := runSelected (decodeEd b1 b2 b3) s

/-- `(prefix FD)` (R121). The row of the FD table that the bytes behind the prefix select. -/
def execPrefixFd (b1 : Byte) (b2 : Byte) (b3 : Byte) (s : State) : Result := runSelected (decodeXy .iy b1 b2 b3) s

/-- `(prefix DD CB: DDCB table)` (R127). The row of the DDCB table that the opcode byte selects. -/
def execPrefixDdCb (d : Byte) (op : Byte) (s : State) : Result := runSelected (decodeXyCb .ix d op) s

/-- `(prefix FD CB: FDCB table)` (R127). The row of the FDCB table that the opcode byte selects. -/
def execPrefixFdCb (d : Byte) (op : Byte) (s : State) : Result := runSelected (decodeXyCb .iy d op) s

end Sys2Proof.Machine
end

