-- ==== Sys2Proof/Machine/Dispatch.lean ====
section
/-! DEFINITION. One arm for each constructor of Instr: a direct call of its meaning. -/

namespace Sys2Proof.Machine

/-- The meaning of an instruction whose first byte stands at PC. -/
def exec (i : Instr) (s : State) : Host.Outcome State Fault Refusal :=
  match i with
  | .nop => Sys2Proof.Machine.execNop s
  | .exAfAf => Sys2Proof.Machine.execExAfAf s
  | .djnz e => Sys2Proof.Machine.execDjnz e s
  | .jr e => Sys2Proof.Machine.execJr e s
  | .jrCc cc e => Sys2Proof.Machine.execJrCc cc e s
  | .ldDdNn dd nn => Sys2Proof.Machine.execLdDdNn dd nn s
  | .addHlSs ss => Sys2Proof.Machine.execAddHlSs ss s
  | .ldAtBcA => Sys2Proof.Machine.execLdAtBcA s
  | .ldAtDeA => Sys2Proof.Machine.execLdAtDeA s
  | .ldAtNnHl nn => Sys2Proof.Machine.execLdAtNnHl nn s
  | .ldAtNnA nn => Sys2Proof.Machine.execLdAtNnA nn s
  | .ldAAtBc => Sys2Proof.Machine.execLdAAtBc s
  | .ldAAtDe => Sys2Proof.Machine.execLdAAtDe s
  | .ldHlAtNn nn => Sys2Proof.Machine.execLdHlAtNn nn s
  | .ldAAtNn nn => Sys2Proof.Machine.execLdAAtNn nn s
  | .incSs ss => Sys2Proof.Machine.execIncSs ss s
  | .decSs ss => Sys2Proof.Machine.execDecSs ss s
  | .incR r => Sys2Proof.Machine.execIncR r s
  | .incAtHl => Sys2Proof.Machine.execIncAtHl s
  | .decR r => Sys2Proof.Machine.execDecR r s
  | .decAtHl => Sys2Proof.Machine.execDecAtHl s
  | .ldRN r n => Sys2Proof.Machine.execLdRN r n s
  | .ldAtHlN n => Sys2Proof.Machine.execLdAtHlN n s
  | .rlca => Sys2Proof.Machine.execRlca s
  | .rrca => Sys2Proof.Machine.execRrca s
  | .rla => Sys2Proof.Machine.execRla s
  | .rra => Sys2Proof.Machine.execRra s
  | .daa => Sys2Proof.Machine.execDaa s
  | .cpl => Sys2Proof.Machine.execCpl s
  | .scf => Sys2Proof.Machine.execScf s
  | .ccf => Sys2Proof.Machine.execCcf s
  | .ldRR r r2 => Sys2Proof.Machine.execLdRR r r2 s
  | .ldRAtHl r => Sys2Proof.Machine.execLdRAtHl r s
  | .ldAtHlR r => Sys2Proof.Machine.execLdAtHlR r s
  | .halt => Sys2Proof.Machine.execHalt s
  | .addR r => Sys2Proof.Machine.execAddR r s
  | .addAtHl => Sys2Proof.Machine.execAddAtHl s
  | .addN n => Sys2Proof.Machine.execAddN n s
  | .adcR r => Sys2Proof.Machine.execAdcR r s
  | .adcAtHl => Sys2Proof.Machine.execAdcAtHl s
  | .adcN n => Sys2Proof.Machine.execAdcN n s
  | .subR r => Sys2Proof.Machine.execSubR r s
  | .subAtHl => Sys2Proof.Machine.execSubAtHl s
  | .subN n => Sys2Proof.Machine.execSubN n s
  | .sbcR r => Sys2Proof.Machine.execSbcR r s
  | .sbcAtHl => Sys2Proof.Machine.execSbcAtHl s
  | .sbcN n => Sys2Proof.Machine.execSbcN n s
  | .andR r => Sys2Proof.Machine.execAndR r s
  | .andAtHl => Sys2Proof.Machine.execAndAtHl s
  | .andN n => Sys2Proof.Machine.execAndN n s
  | .xorR r => Sys2Proof.Machine.execXorR r s
  | .xorAtHl => Sys2Proof.Machine.execXorAtHl s
  | .xorN n => Sys2Proof.Machine.execXorN n s
  | .orR r => Sys2Proof.Machine.execOrR r s
  | .orAtHl => Sys2Proof.Machine.execOrAtHl s
  | .orN n => Sys2Proof.Machine.execOrN n s
  | .cpR r => Sys2Proof.Machine.execCpR r s
  | .cpAtHl => Sys2Proof.Machine.execCpAtHl s
  | .cpN n => Sys2Proof.Machine.execCpN n s
  | .retCc cc => Sys2Proof.Machine.execRetCc cc s
  | .popQq qq => Sys2Proof.Machine.execPopQq qq s
  | .ret => Sys2Proof.Machine.execRet s
  | .exx => Sys2Proof.Machine.execExx s
  | .jpHl => Sys2Proof.Machine.execJpHl s
  | .ldSpHl => Sys2Proof.Machine.execLdSpHl s
  | .jpCcNn cc nn => Sys2Proof.Machine.execJpCcNn cc nn s
  | .jpNn nn => Sys2Proof.Machine.execJpNn nn s
  | .outNA n => Sys2Proof.Machine.execOutNA n s
  | .inAN n => Sys2Proof.Machine.execInAN n s
  | .exAtSpHl => Sys2Proof.Machine.execExAtSpHl s
  | .exDeHl => Sys2Proof.Machine.execExDeHl s
  | .di => Sys2Proof.Machine.execDi s
  | .ei => Sys2Proof.Machine.execEi s
  | .callCcNn cc nn => Sys2Proof.Machine.execCallCcNn cc nn s
  | .pushQq qq => Sys2Proof.Machine.execPushQq qq s
  | .callNn nn => Sys2Proof.Machine.execCallNn nn s
  | .rst p => Sys2Proof.Machine.execRst p s
  | .prefixCb op => Sys2Proof.Machine.execPrefixCb op s
  | .prefixDd b1 b2 b3 => Sys2Proof.Machine.execPrefixDd b1 b2 b3 s
  | .prefixEd b1 b2 b3 => Sys2Proof.Machine.execPrefixEd b1 b2 b3 s
  | .prefixFd b1 b2 b3 => Sys2Proof.Machine.execPrefixFd b1 b2 b3 s
  | .rlcR r => Sys2Proof.Machine.execRlcR r s
  | .rlcAtHl => Sys2Proof.Machine.execRlcAtHl s
  | .rrcR r => Sys2Proof.Machine.execRrcR r s
  | .rrcAtHl => Sys2Proof.Machine.execRrcAtHl s
  | .rlR r => Sys2Proof.Machine.execRlR r s
  | .rlAtHl => Sys2Proof.Machine.execRlAtHl s
  | .rrR r => Sys2Proof.Machine.execRrR r s
  | .rrAtHl => Sys2Proof.Machine.execRrAtHl s
  | .slaR r => Sys2Proof.Machine.execSlaR r s
  | .slaAtHl => Sys2Proof.Machine.execSlaAtHl s
  | .sraR r => Sys2Proof.Machine.execSraR r s
  | .sraAtHl => Sys2Proof.Machine.execSraAtHl s
  | .sllR r => Sys2Proof.Machine.execSllR r s
  | .sllAtHl => Sys2Proof.Machine.execSllAtHl s
  | .srlR r => Sys2Proof.Machine.execSrlR r s
  | .srlAtHl => Sys2Proof.Machine.execSrlAtHl s
  | .bitR b r => Sys2Proof.Machine.execBitR b r s
  | .bitAtHl b => Sys2Proof.Machine.execBitAtHl b s
  | .resR b r => Sys2Proof.Machine.execResR b r s
  | .resAtHl b => Sys2Proof.Machine.execResAtHl b s
  | .setR b r => Sys2Proof.Machine.execSetR b r s
  | .setAtHl b => Sys2Proof.Machine.execSetAtHl b s
  | .inR r => Sys2Proof.Machine.execInR r s
  | .inFlags => Sys2Proof.Machine.execInFlags s
  | .outR r => Sys2Proof.Machine.execOutR r s
  | .outZero => Sys2Proof.Machine.execOutZero s
  | .sbcHlSs ss => Sys2Proof.Machine.execSbcHlSs ss s
  | .adcHlSs ss => Sys2Proof.Machine.execAdcHlSs ss s
  | .ldAtNnDd nn dd => Sys2Proof.Machine.execLdAtNnDd nn dd s
  | .ldDdAtNn dd nn => Sys2Proof.Machine.execLdDdAtNn dd nn s
  | .neg y => Sys2Proof.Machine.execNeg y s
  | .retn y => Sys2Proof.Machine.execRetn y s
  | .reti => Sys2Proof.Machine.execReti s
  | .im0 y => Sys2Proof.Machine.execIm0 y s
  | .im1 y => Sys2Proof.Machine.execIm1 y s
  | .im2 y => Sys2Proof.Machine.execIm2 y s
  | .ldIA => Sys2Proof.Machine.execLdIA s
  | .ldRA => Sys2Proof.Machine.execLdRA s
  | .ldAI => Sys2Proof.Machine.execLdAI s
  | .ldAR => Sys2Proof.Machine.execLdAR s
  | .rrd => Sys2Proof.Machine.execRrd s
  | .rld => Sys2Proof.Machine.execRld s
  | .ldi => Sys2Proof.Machine.execLdi s
  | .cpi => Sys2Proof.Machine.execCpi s
  | .ini => Sys2Proof.Machine.execIni s
  | .outi => Sys2Proof.Machine.execOuti s
  | .ldd => Sys2Proof.Machine.execLdd s
  | .cpd => Sys2Proof.Machine.execCpd s
  | .ind => Sys2Proof.Machine.execInd s
  | .outd => Sys2Proof.Machine.execOutd s
  | .ldir => Sys2Proof.Machine.execLdir s
  | .cpir => Sys2Proof.Machine.execCpir s
  | .inir => Sys2Proof.Machine.execInir s
  | .otir => Sys2Proof.Machine.execOtir s
  | .lddr => Sys2Proof.Machine.execLddr s
  | .cpdr => Sys2Proof.Machine.execCpdr s
  | .indr => Sys2Proof.Machine.execIndr s
  | .otdr => Sys2Proof.Machine.execOtdr s
  | .nopEd0 op => Sys2Proof.Machine.execNopEd0 op s
  | .nopEd3 op => Sys2Proof.Machine.execNopEd3 op s
  | .nopEd7 y0 => Sys2Proof.Machine.execNopEd7 y0 s
  | .nopEd2 op => Sys2Proof.Machine.execNopEd2 op s
  | .ldIxNn nn => Sys2Proof.Machine.execLdIxNn nn s
  | .ldAtNnIx nn => Sys2Proof.Machine.execLdAtNnIx nn s
  | .incIx => Sys2Proof.Machine.execIncIx s
  | .ldIxAtNn nn => Sys2Proof.Machine.execLdIxAtNn nn s
  | .decIx => Sys2Proof.Machine.execDecIx s
  | .addIxPp pp => Sys2Proof.Machine.execAddIxPp pp s
  | .incIxHalf x => Sys2Proof.Machine.execIncIxHalf x s
  | .decIxHalf x => Sys2Proof.Machine.execDecIxHalf x s
  | .ldIxHalfN x n => Sys2Proof.Machine.execLdIxHalfN x n s
  | .incAtIx d => Sys2Proof.Machine.execIncAtIx d s
  | .decAtIx d => Sys2Proof.Machine.execDecAtIx d s
  | .ldAtIxN d n => Sys2Proof.Machine.execLdAtIxN d n s
  | .ldRAtIx r d => Sys2Proof.Machine.execLdRAtIx r d s
  | .ldAtIxR d r => Sys2Proof.Machine.execLdAtIxR d r s
  | .ldRRIx r r2 => Sys2Proof.Machine.execLdRRIx r r2 s
  | .addIxHalf x => Sys2Proof.Machine.execAddIxHalf x s
  | .addAtIx d => Sys2Proof.Machine.execAddAtIx d s
  | .adcIxHalf x => Sys2Proof.Machine.execAdcIxHalf x s
  | .adcAtIx d => Sys2Proof.Machine.execAdcAtIx d s
  | .subIxHalf x => Sys2Proof.Machine.execSubIxHalf x s
  | .subAtIx d => Sys2Proof.Machine.execSubAtIx d s
  | .sbcIxHalf x => Sys2Proof.Machine.execSbcIxHalf x s
  | .sbcAtIx d => Sys2Proof.Machine.execSbcAtIx d s
  | .andIxHalf x => Sys2Proof.Machine.execAndIxHalf x s
  | .andAtIx d => Sys2Proof.Machine.execAndAtIx d s
  | .xorIxHalf x => Sys2Proof.Machine.execXorIxHalf x s
  | .xorAtIx d => Sys2Proof.Machine.execXorAtIx d s
  | .orIxHalf x => Sys2Proof.Machine.execOrIxHalf x s
  | .orAtIx d => Sys2Proof.Machine.execOrAtIx d s
  | .cpIxHalf x => Sys2Proof.Machine.execCpIxHalf x s
  | .cpAtIx d => Sys2Proof.Machine.execCpAtIx d s
  | .popIx => Sys2Proof.Machine.execPopIx s
  | .exAtSpIx => Sys2Proof.Machine.execExAtSpIx s
  | .pushIx => Sys2Proof.Machine.execPushIx s
  | .jpIx => Sys2Proof.Machine.execJpIx s
  | .ldSpIx => Sys2Proof.Machine.execLdSpIx s
  | .prefixDdCb d op => Sys2Proof.Machine.execPrefixDdCb d op s
  | .loneDd => Sys2Proof.Machine.execLoneDd s
  | .ignoredDd base => Sys2Proof.Machine.execIgnoredDd base s
  | .rlcAtIx d => Sys2Proof.Machine.execRlcAtIx d s
  | .rlcAtIxR d r => Sys2Proof.Machine.execRlcAtIxR d r s
  | .rrcAtIx d => Sys2Proof.Machine.execRrcAtIx d s
  | .rrcAtIxR d r => Sys2Proof.Machine.execRrcAtIxR d r s
  | .rlAtIx d => Sys2Proof.Machine.execRlAtIx d s
  | .rlAtIxR d r => Sys2Proof.Machine.execRlAtIxR d r s
  | .rrAtIx d => Sys2Proof.Machine.execRrAtIx d s
  | .rrAtIxR d r => Sys2Proof.Machine.execRrAtIxR d r s
  | .slaAtIx d => Sys2Proof.Machine.execSlaAtIx d s
  | .slaAtIxR d r => Sys2Proof.Machine.execSlaAtIxR d r s
  | .sraAtIx d => Sys2Proof.Machine.execSraAtIx d s
  | .sraAtIxR d r => Sys2Proof.Machine.execSraAtIxR d r s
  | .sllAtIx d => Sys2Proof.Machine.execSllAtIx d s
  | .sllAtIxR d r => Sys2Proof.Machine.execSllAtIxR d r s
  | .srlAtIx d => Sys2Proof.Machine.execSrlAtIx d s
  | .srlAtIxR d r => Sys2Proof.Machine.execSrlAtIxR d r s
  | .bitAtIx b d z => Sys2Proof.Machine.execBitAtIx b d z s
  | .resAtIx b d => Sys2Proof.Machine.execResAtIx b d s
  | .resAtIxR b d r => Sys2Proof.Machine.execResAtIxR b d r s
  | .setAtIx b d => Sys2Proof.Machine.execSetAtIx b d s
  | .setAtIxR b d r => Sys2Proof.Machine.execSetAtIxR b d r s
  | .ldIyNn nn => Sys2Proof.Machine.execLdIyNn nn s
  | .ldAtNnIy nn => Sys2Proof.Machine.execLdAtNnIy nn s
  | .incIy => Sys2Proof.Machine.execIncIy s
  | .ldIyAtNn nn => Sys2Proof.Machine.execLdIyAtNn nn s
  | .decIy => Sys2Proof.Machine.execDecIy s
  | .addIyPp pp => Sys2Proof.Machine.execAddIyPp pp s
  | .incIyHalf x => Sys2Proof.Machine.execIncIyHalf x s
  | .decIyHalf x => Sys2Proof.Machine.execDecIyHalf x s
  | .ldIyHalfN x n => Sys2Proof.Machine.execLdIyHalfN x n s
  | .incAtIy d => Sys2Proof.Machine.execIncAtIy d s
  | .decAtIy d => Sys2Proof.Machine.execDecAtIy d s
  | .ldAtIyN d n => Sys2Proof.Machine.execLdAtIyN d n s
  | .ldRAtIy r d => Sys2Proof.Machine.execLdRAtIy r d s
  | .ldAtIyR d r => Sys2Proof.Machine.execLdAtIyR d r s
  | .ldRRIy r r2 => Sys2Proof.Machine.execLdRRIy r r2 s
  | .addIyHalf x => Sys2Proof.Machine.execAddIyHalf x s
  | .addAtIy d => Sys2Proof.Machine.execAddAtIy d s
  | .adcIyHalf x => Sys2Proof.Machine.execAdcIyHalf x s
  | .adcAtIy d => Sys2Proof.Machine.execAdcAtIy d s
  | .subIyHalf x => Sys2Proof.Machine.execSubIyHalf x s
  | .subAtIy d => Sys2Proof.Machine.execSubAtIy d s
  | .sbcIyHalf x => Sys2Proof.Machine.execSbcIyHalf x s
  | .sbcAtIy d => Sys2Proof.Machine.execSbcAtIy d s
  | .andIyHalf x => Sys2Proof.Machine.execAndIyHalf x s
  | .andAtIy d => Sys2Proof.Machine.execAndAtIy d s
  | .xorIyHalf x => Sys2Proof.Machine.execXorIyHalf x s
  | .xorAtIy d => Sys2Proof.Machine.execXorAtIy d s
  | .orIyHalf x => Sys2Proof.Machine.execOrIyHalf x s
  | .orAtIy d => Sys2Proof.Machine.execOrAtIy d s
  | .cpIyHalf x => Sys2Proof.Machine.execCpIyHalf x s
  | .cpAtIy d => Sys2Proof.Machine.execCpAtIy d s
  | .popIy => Sys2Proof.Machine.execPopIy s
  | .exAtSpIy => Sys2Proof.Machine.execExAtSpIy s
  | .pushIy => Sys2Proof.Machine.execPushIy s
  | .jpIy => Sys2Proof.Machine.execJpIy s
  | .ldSpIy => Sys2Proof.Machine.execLdSpIy s
  | .prefixFdCb d op => Sys2Proof.Machine.execPrefixFdCb d op s
  | .loneFd => Sys2Proof.Machine.execLoneFd s
  | .ignoredFd base => Sys2Proof.Machine.execIgnoredFd base s
  | .rlcAtIy d => Sys2Proof.Machine.execRlcAtIy d s
  | .rlcAtIyR d r => Sys2Proof.Machine.execRlcAtIyR d r s
  | .rrcAtIy d => Sys2Proof.Machine.execRrcAtIy d s
  | .rrcAtIyR d r => Sys2Proof.Machine.execRrcAtIyR d r s
  | .rlAtIy d => Sys2Proof.Machine.execRlAtIy d s
  | .rlAtIyR d r => Sys2Proof.Machine.execRlAtIyR d r s
  | .rrAtIy d => Sys2Proof.Machine.execRrAtIy d s
  | .rrAtIyR d r => Sys2Proof.Machine.execRrAtIyR d r s
  | .slaAtIy d => Sys2Proof.Machine.execSlaAtIy d s
  | .slaAtIyR d r => Sys2Proof.Machine.execSlaAtIyR d r s
  | .sraAtIy d => Sys2Proof.Machine.execSraAtIy d s
  | .sraAtIyR d r => Sys2Proof.Machine.execSraAtIyR d r s
  | .sllAtIy d => Sys2Proof.Machine.execSllAtIy d s
  | .sllAtIyR d r => Sys2Proof.Machine.execSllAtIyR d r s
  | .srlAtIy d => Sys2Proof.Machine.execSrlAtIy d s
  | .srlAtIyR d r => Sys2Proof.Machine.execSrlAtIyR d r s
  | .bitAtIy b d z => Sys2Proof.Machine.execBitAtIy b d z s
  | .resAtIy b d => Sys2Proof.Machine.execResAtIy b d s
  | .resAtIyR b d r => Sys2Proof.Machine.execResAtIyR b d r s
  | .setAtIy b d => Sys2Proof.Machine.execSetAtIy b d s
  | .setAtIyR b d r => Sys2Proof.Machine.execSetAtIyR b d r s

end Sys2Proof.Machine
end

