-- ==== Sys2Proof/Machine/Engine.lean ====
section
/-! DEFINITION. The engine step (60_exceptions R402, R411 to R413, R420 to R422): one acceptance, one halted idle period or one instruction. -/

namespace Sys2Proof.Machine

/-- What a step does (R420). -/
inductive StepKind where
  | nmiAccept | intAccept | idle | instr
  deriving DecidableEq, Repr

/-- The NMI condition (R411, R422): pending, and the step before was no lone prefix. -/
def Ctl.acceptsNmi (k : Ctl) : Bool := k.nmiPending && !k.prefixDefer

/-- The INT condition without the NMI's priority (R411, R422): pending, enabled, and the step before was neither EI nor a lone prefix. -/
def Ctl.acceptsInt (k : Ctl) : Bool := k.intPending && k.iff1 && !k.eiDefer && !k.prefixDefer

/-- The kind the next step takes (R413, R420). -/
def State.kind (s : State) : StepKind :=
  if s.ctl.acceptsNmi then .nmiAccept
  else if s.ctl.acceptsInt then .intAccept
  else if s.ctl.halted then .idle
  else .instr

/-- No message of this step has matched yet (R441). -/
def State.unmarked (s : State) : State := s.setDebug { s.plane with msgHit := none }

/-- The start of a step: both deferral bits are cleared (R421). -/
def State.begin (s : State) : State :=
  s.setCtl { s.ctl with eiDefer := false, prefixDefer := false }

/-- The instruction the next step runs, if it runs one: the one the bytes at PC hold. -/
def State.nextInstr (s : State) : Instr := s.instrAt s.pc

/-- The step's own effect, by its kind (R420). -/
def State.act (s : State) : StepKind → Result
  | .nmiAccept => s.acceptNmi
  | .intAccept => s.acceptInt
  | .idle => s.haltedIdle
  | .instr => exec s.nextInstr s

/-- A refusal the spec names discards the step, from which REFUSED alone remains (R402). Any other stop stays one. -/
def settle (before : State) (x : Result) : Result :=
  match x with
  | .next s => .next s
  | .fault e => .fault e
  | .refused e => if e.isSpecified then .next (before.setRefused true) else .refused e

/-- `step()` (R402, R420). -/
def State.engineStep (s : State) : Result :=
  if s.refused then .next s
  else settle s.unmarked (s.unmarked.begin.act s.kind)

end Sys2Proof.Machine
end

