-- ==== Sys2Proof/Machine/DebugPlane.lean ====
section
/-! DEFINITION. The breakpoint registry, the debug commands and the tick (60_exceptions R440, R443 to R445, R450 to R462). -/

namespace Sys2Proof.Machine

/-- `check_pc(addr)` (R440, R444). -/
def Debug.checkPc (g : Debug) (addr : Word) : Bool := g.pcBps.contains addr

/-- Append a report (R465). -/
def Debug.report (g : Debug) (x : Report) : Debug := { g with reports := g.reports ++ [x] }

/-- `recent_messages(n)`: the last min(n, |MSGS|) messages, oldest first (R445). -/
def Debug.recent (g : Debug) (n : Nat) : List Text := g.msgs.drop (g.msgs.length - n)

/-- A set with one element more: nothing changes when it is there already (R452, R454). -/
def addToSet {α : Type} [DecidableEq α] (xs : List α) (x : α) : List α :=
  if xs.contains x then xs else xs ++ [x]

/-- The Status view (R459). -/
def State.statusView (s : State) : StatusView :=
  { main := s.main, alt := s.alt, ix := s.ix, iy := s.iy, sp := s.sp, pc := s.pc, i := s.i, r := s.r,
    iff1 := s.ctl.iff1, iff2 := s.ctl.iff2, im := s.ctl.im, halted := s.ctl.halted,
    nmiPending := s.ctl.nmiPending, intPending := s.ctl.intPending,
    mapper := s.store.mapper, execState := s.plane.execState, cycles := s.cycles }

/-- `Resume` (R457): leaving Held sets SKIP_BP (R443). -/
def Debug.resume (g : Debug) : Debug :=
  match g.execState with
  | .held => { g with execState := .running, skipBp := true }
  | .singleStepPending => { g with execState := .running }
  | .running => g

/-- `Step` (R458): leaving Held sets SKIP_BP (R443). -/
def Debug.single (g : Debug) : Debug :=
  match g.execState with
  | .held => { g with execState := .singleStepPending, skipBp := true }
  | .singleStepPending => g
  | .running => { g with execState := .singleStepPending }

/-- What a command makes of the registry and the debug control state; the other state is only looked at (R452 to R462). -/
def State.commanded (s : State) : Command → Debug
  | .step => s.plane.single
  | .hold => { s.plane with execState := .held }
  | .resume => s.plane.resume
  | .breakAtPc addr => { s.plane with pcBps := addToSet s.plane.pcBps addr }
  | .removePcBreakpoints => { s.plane with pcBps := [] }
  | .breakAtMessage pattern => { s.plane with msgBps := addToSet s.plane.msgBps pattern }
  | .removeBreakMessages => { s.plane with msgBps := [] }
  | .showRecentMessages => s.plane.report (.recentMessages (s.plane.recent s.params.msgCapacity))
  | .status => s.plane.report (.statusView s.statusView)
  | .disassemble start count =>
    s.plane.report (.disassembly (s.disassemble (start.getD s.pc) (count.getD s.params.disasmCount)))

/-- Apply one command (R450). -/
def State.command (s : State) (c : Command) : State := s.setDebug (s.commanded c)

/-- Write CMDQ. -/
def State.setQueue (s : State) (cs : List Command) : State := s.setDebug { s.plane with cmdQ := cs }

/-- Apply commands in order; after a Step the rest stays queued (R451). -/
def State.applyCommands : List Command → State → State
  | [], s => s.setQueue []
  | .step :: cs, s => (s.command .step).setQueue cs
  | c :: cs, s => State.applyCommands cs (s.command c)

/-- `dispatch(CMDQ)` (R451, R460). -/
def State.dispatch (s : State) : State := State.applyCommands s.plane.cmdQ s

/-- `EXEC <- Held` with a report to the host (R440, R441). -/
def State.holdWith (s : State) (x : Report) : State := s.setDebug ({ s.plane with execState := .held }.report x)

/-- After the step of a tick: a message that matched holds the core and is reported; else a single step holds it (R441, R460). -/
def State.afterStep (wasSingle : Bool) (s : State) : State :=
  match s.plane.msgHit with
  | some t => (s.holdWith (.messageBreak t)).unmarked
  | none => if wasSingle then s.setDebug { s.plane with execState := .held } else s

/-- The step of a tick and what follows it (R460). -/
def State.stepInTick (s : State) : Result :=
  andThen s.engineStep fun s1 => .next (s1.afterStep (s.plane.execState == .singleStepPending))

/-- The tick after its commands are applied: nothing while REFUSED or Held; else the PC check and the step (R440, R460). At a halted idle
period no check is made and SKIP_BP stays; at the first boundary that would make the check SKIP_BP skips it and is cleared (R443;
90_conflicts C4). DEDUCED: R460's code clears it at an idle boundary too; C4, which decides, gives the first check (log entry 28). -/
def State.runTick (s : State) : Result :=
  if s.refused || s.plane.execState == .held then .next s
  else if s.kind == .idle then s.stepInTick
  else if s.plane.skipBp then (s.setDebug { s.plane with skipBp := false }).stepInTick
  else if s.plane.checkPc s.pc then .next (s.holdWith (.breakpointHit s.pc))
  else s.stepInTick

/-- `tick()` (R460). The T-states it returns are the difference in CYCLES, its reports those added to `plane.reports`. -/
def State.tick (s : State) : Result := s.dispatch.runTick

end Sys2Proof.Machine
end

