-- ==== Sys2Proof/Machine/HostInterface.lean ====
section
/-! DEFINITION. What the host can do to the block between ticks (60_exceptions R465 to R468; 20_memory R74, R99; 70_reset_and_hazards R480,
R481; 10_state R51). None of it is a step (log entry 12). -/

namespace Sys2Proof.Machine

/-- `request_interrupt(maskable)` (R466). -/
def State.requestInterrupt (s : State) (maskable : Bool) : State :=
  if maskable then s.setCtl { s.ctl with intPending := true } else s.setCtl { s.ctl with nmiPending := true }

/-- Submit a debug command (R451, R465). -/
def State.submit (s : State) (c : Command) : State := s.setQueue (s.plane.cmdQ ++ [c])

/-- Line up answers of the I/O oracle (R465; 47_io R350; log entry 6). -/
def State.lineUp (s : State) (vs : List Byte) : State := s.setIo { s.io with answers := s.io.answers ++ vs }

/-! Reset and configuration -/

/-- `reset_fill`: a value for each register that `reset` leaves to a draw (00_scope R8; 70_reset_and_hazards R480). -/
structure ResetFill where
  main : Bank
  alt : Bank
  ix : Word
  iy : Word
  sp : Word
  deriving DecidableEq, Repr

/-- The values of log entry 1. -/
def ResetFill.zero : ResetFill := { main := Bank.zero, alt := Bank.zero, ix := 0, iy := 0, sp := 0 }

/-- `reset()` (R480): the CPU only. Memory, mapper, CYCLES, registry, EXEC and REFUSED stay. -/
def State.cpuReset (s : State) (fill : ResetFill) : State :=
  { s with main := fill.main, alt := fill.alt, ix := fill.ix, iy := fill.iy, sp := fill.sp,
           pc := 0, i := 0, r := 0, ctl := Ctl.reset }

/-- The mapper registers `configure` sets (20_memory R99). -/
def Mapper.initial : MapperKind → Mapper
  | .standard => .standard { ramctl := 0x00, bank0 := 0x00, bank1 := 0x01, bank2 := 0x02 }
  | .codeMasters => .codeMasters { cm0 := 0x00, cm1 := 0x01, cm2 := 0x02 }
  | .sg1000 => .sg1000
  | .noMapper => .noMapper

/-- The kind tag of a mapper state. -/
def Mapper.kind : Mapper → MapperKind
  | .standard _ => .standard
  | .codeMasters _ => .codeMasters
  | .sg1000 => .sg1000
  | .noMapper => .noMapper

/-- The powers of two between 1 KiB and 16 KiB (20_memory R74). -/
def ramSizes : List Nat := [1024, 2048, 4096, 8192, 16384]

/-- The image lengths a kind takes (R74): never empty; whole pages for the banked kinds; at most 48 KiB for the linear ones. -/
def MapperKind.takesLength (k : MapperKind) (len : Nat) : Bool :=
  decide (0 < len) &&
  match k with
  | .standard => len % Config.pageSize == 0
  | .codeMasters => len % Config.pageSize == 0
  | .sg1000 => decide (len ≤ Config.linearMax)
  | .noMapper => decide (len ≤ Config.linearMax)

/-- What the host sends with `configure`: the cartridge, the console and the parameters of 00_scope R8. No `kind` stands for a kind that is
none of the four (log entry 19). -/
structure Configuration where
  kind : Option MapperKind
  romImage : List Byte
  ramSize : Nat
  ramInit : List Byte
  cartInit : List Byte
  fill : ResetFill
  params : Params
  /-- `initial_exec_state` is Held. -/
  startHeld : Bool
  deriving DecidableEq, Repr

/-- Memory and mapper at `configure`; only the Standard kind has cartridge RAM (10_state R42, R50). -/
def Configuration.store (c : Configuration) (k : MapperKind) : Store :=
  { rom := Memory.ofBytes 0 c.romImage
    romLen := c.romImage.length
    ram := Memory.ofBytes 0 (c.ramInit.take c.ramSize)
    ramSize := c.ramSize
    cart := if k == .standard then Memory.ofBytes 0 (c.cartInit.take Config.cartSize) else []
    mapper := Mapper.initial k }

/-- The registry at `configure` (10_state R50). -/
def Configuration.plane (c : Configuration) : Debug :=
  { pcBps := [], msgBps := [], msgs := [], execState := if c.startHeld then .held else .running, cmdQ := [],
    skipBp := false, msgHit := none, reports := [] }

/-- `configure` (20_memory R74), which ends with a reset (70_reset_and_hazards R481); the fatal configuration error builds no state. -/
def configure (c : Configuration) : Result :=
  match c.kind with
  | none => .fault .fatalConfiguration
  | some k =>
    if k.takesLength c.romImage.length && ramSizes.contains c.ramSize then
      .next (State.cpuReset
        { State.reset with store := c.store k, plane := c.plane, params := c.params } c.fill)
    else .fault .fatalConfiguration

/-! Snapshots (10_state R51; 60_exceptions R467, R468) -/

/-- The content of a snapshot (R51), with what its compatibility is told by: the image and its length and `ram_size` (R468;
log entry 21). -/
structure Snapshot where
  main : Bank
  alt : Bank
  ix : Word
  iy : Word
  sp : Word
  pc : Word
  i : Byte
  r : Byte
  ctl : Ctl
  store : Store
  cycles : Nat
  deriving DecidableEq, Repr

/-- `snapshot()` (R467). -/
def State.snapshot (s : State) : Snapshot :=
  { main := s.main, alt := s.alt, ix := s.ix, iy := s.iy, sp := s.sp, pc := s.pc, i := s.i, r := s.r, ctl := s.ctl,
    store := s.store, cycles := s.cycles }

/-- No refused control bit is held in a mapper register (20_memory R83, R93). -/
def Mapper.legal : Mapper → Bool
  | .standard g => !g.ramctl.getLsbD 0 && !g.ramctl.getLsbD 1 && !g.ramctl.getLsbD 4
  | .codeMasters g => !g.cm1.getLsbD 7
  | .sg1000 => true
  | .noMapper => true

/-- A store that `configure` and the writes can build: each memory in its canonical form and within its size, sizes that R74 allows, a
legal mapper. -/
def Store.wf (st : Store) : Bool :=
  Memory.wf st.rom && Memory.below st.rom st.romLen &&
  Memory.wf st.ram && Memory.below st.ram st.ramSize &&
  Memory.wf st.cart && Memory.below st.cart Config.cartSize &&
  (st.mapper.kind == .standard || st.cart == []) &&
  st.mapper.kind.takesLength st.romLen && ramSizes.contains st.ramSize && st.mapper.legal

/-- The same configuration: mapper kind, RAM size and ROM image (R468). -/
def Store.compatible (st st' : Store) : Bool :=
  st.mapper.kind == st'.mapper.kind && st.ramSize == st'.ramSize && st.romLen == st'.romLen && st.rom == st'.rom

/-- `restore(s)` (R468): all the fields of R51, or InvalidSnapshot and nothing. The registry, EXEC, CMDQ, SKIP_BP and REFUSED stay. -/
def State.restore (s : State) (x : Snapshot) : Result :=
  if x.store.wf && s.store.compatible x.store then
    .next { s with main := x.main, alt := x.alt, ix := x.ix, iy := x.iy, sp := x.sp, pc := x.pc, i := x.i, r := x.r,
                   ctl := x.ctl, store := x.store, cycles := x.cycles }
  else .fault .invalidSnapshot

/-! Placing an instruction (log entry 26) -/

/-- Put a byte where an address leads, past the write map: a program comes to its memory from outside the machine. A linear image grows to
take an address past its end. -/
def Store.place (st : Store) (addr : Word) (v : Byte) : Store :=
  match st.locate addr with
  | .rom off => { st with rom := Memory.write st.rom off v }
  | .ram off => { st with ram := Memory.write st.ram off v }
  | .cart off => { st with cart := Memory.write st.cart off v }
  | .unmapped a => { st with rom := Memory.write st.rom a.toNat v, romLen := a.toNat + 1 }

/-- Put bytes from an address on. -/
def Store.placeAll (st : Store) : Word → List Byte → Store
  | _, [] => st
  | a, v :: vs => (st.place a v).placeAll (a + 1) vs

/-- The control state in which the next step runs an instruction: nothing queued, not held, no interrupt, not halted, no refusal, and no
breakpoint check where the PC is one. From `State.reset` this changes nothing. -/
def State.ready (s : State) : State :=
  ((s.setRefused false).setCtl { s.ctl with nmiPending := false, intPending := false, halted := false }).setDebug
    { s.plane with cmdQ := [], execState := if s.plane.execState == .held then .running else s.plane.execState,
                   skipBp := s.plane.skipBp || s.plane.checkPc s.pc }

/-- The instruction of nbits bits w, and zeros behind it up to four bytes, at PC. -/
def State.placeWord (s : State) (nbits w : Nat) : State :=
  s.ready.setStore (s.store.placeAll s.pc [tableByte nbits w 0, tableByte nbits w 1, tableByte nbits w 2, tableByte nbits w 3])

end Sys2Proof.Machine
end

