-- ==== Sys2Proof/Machine/Step.lean ====
section
/-! DEFINITION. The step the host runs: one tick (60_exceptions R460). -/

namespace Sys2Proof.Machine

/-- One iteration of the host loop: debug commands, PC check, one engine step (60_exceptions R460; log entry 10). -/
def step (s : State) : Host.Outcome State Fault Refusal := s.tick

/-- The instruction whose bits are w, numbered as spec/opcode_table.json numbers them, stored where `step` fetches next (log entry 26). -/
def State.withFetchWord (s : State) (nbits w : Nat) : State := s.placeWord nbits w

end Sys2Proof.Machine
end

