-- ==== Sys2Proof/Safety.lean ====
section
/-! DEFINITION. The terms the statements use: what an instruction's next state looks like, what a write is, the operand forms of the
families as tables (43_alu8 R240, 45_rotate_bit R294), which instructions may change what, and the invariant of the machine. -/

namespace Sys2Proof

/-- The set AFF: the base opcodes that a DD or FD prefix affects, with 0xCB (30_encoding R123). -/
def affected : List Byte :=
  [0x09, 0x19, 0x21, 0x22, 0x23, 0x24, 0x25, 0x26, 0x29, 0x2A, 0x2B, 0x2C, 0x2D, 0x2E, 0x34, 0x35, 0x36, 0x39] ++
  [0x44, 0x45, 0x46, 0x4C, 0x4D, 0x4E, 0x54, 0x55, 0x56, 0x5C, 0x5D, 0x5E] ++
  [0x60, 0x61, 0x62, 0x63, 0x64, 0x65, 0x66, 0x67, 0x68, 0x69, 0x6A, 0x6B, 0x6C, 0x6D, 0x6E, 0x6F] ++
  [0x70, 0x71, 0x72, 0x73, 0x74, 0x75, 0x77, 0x7C, 0x7D, 0x7E] ++
  [0x84, 0x85, 0x86, 0x8C, 0x8D, 0x8E, 0x94, 0x95, 0x96, 0x9C, 0x9D, 0x9E, 0xA4, 0xA5, 0xA6, 0xAC, 0xAD, 0xAE] ++
  [0xB4, 0xB5, 0xB6, 0xBC, 0xBD, 0xBE, 0xCB, 0xE1, 0xE3, 0xE5, 0xE9, 0xF9]

/-! Classes of instructions; each is asked of the instruction without an ignored prefix -/

/-- The instruction that an ignored prefix stands before, or the instruction itself (30_encoding R125). -/
def Instr.core : Instr → Instr
  | .ignoredDd base => base
  | .ignoredFd base => base
  | i => i

/-- A lone DD or FD (30_encoding R126). -/
def Instr.isLonePrefix : Instr → Bool
  | .loneDd => true
  | .loneFd => true
  | _ => false

/-- How many M1 cycles an instruction has: 2 with a prefix CB, DD, ED or FD, else 1; a lone prefix has 1 (10_state R33). -/
def Instr.m1 (i : Instr) : Nat :=
  match i.encode with
  | b :: _ :: _ => if b == 0xCB || b == 0xDD || b == 0xED || b == 0xFD then 2 else 1
  | _ => 1

/-- The eight instructions that repeat (42_block R214). -/
def Instr.repeats : Instr → Bool
  | .ldir => true
  | .lddr => true
  | .cpir => true
  | .cpdr => true
  | .inir => true
  | .indr => true
  | .otir => true
  | .otdr => true
  | _ => false

/-- Jumps, calls, returns and restarts (46_control_transfer R334). -/
def Instr.transfers : Instr → Bool
  | .djnz _ => true
  | .jr _ => true
  | .jrCc _ _ => true
  | .retCc _ => true
  | .ret => true
  | .jpHl => true
  | .jpIx => true
  | .jpIy => true
  | .jpCcNn _ _ => true
  | .jpNn _ => true
  | .callCcNn _ _ => true
  | .callNn _ => true
  | .rst _ => true
  | .retn _ => true
  | .reti => true
  | _ => false

/-- The instructions that can write SP (10_state R26). -/
def Instr.writesSp : Instr → Bool
  | .ldDdNn dd _ => dd == .sp
  | .ldDdAtNn dd _ => dd == .sp
  | .ldSpHl => true
  | .ldSpIx => true
  | .ldSpIy => true
  | .incSs ss => ss == .sp
  | .decSs ss => ss == .sp
  | .pushQq _ => true
  | .pushIx => true
  | .pushIy => true
  | .popQq _ => true
  | .popIx => true
  | .popIy => true
  | .callNn _ => true
  | .callCcNn _ _ => true
  | .ret => true
  | .retCc _ => true
  | .reti => true
  | .retn _ => true
  | .rst _ => true
  | _ => false

/-- The instructions that reach the I/O space (20_memory R62). -/
def Instr.usesIo : Instr → Bool
  | .inAN _ => true
  | .inR _ => true
  | .inFlags => true
  | .outNA _ => true
  | .outR _ => true
  | .outZero => true
  | .ini => true
  | .ind => true
  | .inir => true
  | .indr => true
  | .outi => true
  | .outd => true
  | .otir => true
  | .otdr => true
  | _ => false

/-- The instructions that write F (the Flags entry of each rule of 40_load8 to 48_cpu_control). -/
def Instr.writesFlags : Instr → Bool
  | .exAfAf => true
  | .popQq qq => qq == .af
  | .ldAI => true
  | .ldAR => true
  | .rlca => true
  | .rrca => true
  | .rla => true
  | .rra => true
  | .daa => true
  | .cpl => true
  | .scf => true
  | .ccf => true
  | .neg _ => true
  | .incR _ => true
  | .incAtHl => true
  | .decR _ => true
  | .decAtHl => true
  | .addHlSs _ => true
  | .adcHlSs _ => true
  | .sbcHlSs _ => true
  | .rrd => true
  | .rld => true
  | .inR _ => true
  | .inFlags => true
  | .ldi => true
  | .ldd => true
  | .ldir => true
  | .lddr => true
  | .cpi => true
  | .cpd => true
  | .cpir => true
  | .cpdr => true
  | .ini => true
  | .ind => true
  | .inir => true
  | .indr => true
  | .outi => true
  | .outd => true
  | .otir => true
  | .otdr => true
  | .addR _ => true
  | .addAtHl => true
  | .addN _ => true
  | .adcR _ => true
  | .adcAtHl => true
  | .adcN _ => true
  | .subR _ => true
  | .subAtHl => true
  | .subN _ => true
  | .sbcR _ => true
  | .sbcAtHl => true
  | .sbcN _ => true
  | .andR _ => true
  | .andAtHl => true
  | .andN _ => true
  | .xorR _ => true
  | .xorAtHl => true
  | .xorN _ => true
  | .orR _ => true
  | .orAtHl => true
  | .orN _ => true
  | .cpR _ => true
  | .cpAtHl => true
  | .cpN _ => true
  | .rlcR _ => true
  | .rlcAtHl => true
  | .rrcR _ => true
  | .rrcAtHl => true
  | .rlR _ => true
  | .rlAtHl => true
  | .rrR _ => true
  | .rrAtHl => true
  | .slaR _ => true
  | .slaAtHl => true
  | .sraR _ => true
  | .sraAtHl => true
  | .sllR _ => true
  | .sllAtHl => true
  | .srlR _ => true
  | .srlAtHl => true
  | .bitR _ _ => true
  | .bitAtHl _ => true
  | .addIxPp _ => true
  | .incIxHalf _ => true
  | .decIxHalf _ => true
  | .incAtIx _ => true
  | .decAtIx _ => true
  | .addIxHalf _ => true
  | .addAtIx _ => true
  | .adcIxHalf _ => true
  | .adcAtIx _ => true
  | .subIxHalf _ => true
  | .subAtIx _ => true
  | .sbcIxHalf _ => true
  | .sbcAtIx _ => true
  | .andIxHalf _ => true
  | .andAtIx _ => true
  | .xorIxHalf _ => true
  | .xorAtIx _ => true
  | .orIxHalf _ => true
  | .orAtIx _ => true
  | .cpIxHalf _ => true
  | .cpAtIx _ => true
  | .rlcAtIx _ => true
  | .rlcAtIxR _ _ => true
  | .rrcAtIx _ => true
  | .rrcAtIxR _ _ => true
  | .rlAtIx _ => true
  | .rlAtIxR _ _ => true
  | .rrAtIx _ => true
  | .rrAtIxR _ _ => true
  | .slaAtIx _ => true
  | .slaAtIxR _ _ => true
  | .sraAtIx _ => true
  | .sraAtIxR _ _ => true
  | .sllAtIx _ => true
  | .sllAtIxR _ _ => true
  | .srlAtIx _ => true
  | .srlAtIxR _ _ => true
  | .bitAtIx _ _ _ => true
  | .addIyPp _ => true
  | .incIyHalf _ => true
  | .decIyHalf _ => true
  | .incAtIy _ => true
  | .decAtIy _ => true
  | .addIyHalf _ => true
  | .addAtIy _ => true
  | .adcIyHalf _ => true
  | .adcAtIy _ => true
  | .subIyHalf _ => true
  | .subAtIy _ => true
  | .sbcIyHalf _ => true
  | .sbcAtIy _ => true
  | .andIyHalf _ => true
  | .andAtIy _ => true
  | .xorIyHalf _ => true
  | .xorAtIy _ => true
  | .orIyHalf _ => true
  | .orAtIy _ => true
  | .cpIyHalf _ => true
  | .cpAtIy _ => true
  | .rlcAtIy _ => true
  | .rlcAtIyR _ _ => true
  | .rrcAtIy _ => true
  | .rrcAtIyR _ _ => true
  | .rlAtIy _ => true
  | .rlAtIyR _ _ => true
  | .rrAtIy _ => true
  | .rrAtIyR _ _ => true
  | .slaAtIy _ => true
  | .slaAtIyR _ _ => true
  | .sraAtIy _ => true
  | .sraAtIyR _ _ => true
  | .sllAtIy _ => true
  | .sllAtIyR _ _ => true
  | .srlAtIy _ => true
  | .srlAtIyR _ _ => true
  | .bitAtIy _ _ _ => true
  | _ => false

end Sys2Proof

namespace Sys2Proof.Machine

/-! Next states -/

/-- `s.after len m1 t u`: u with PC past the len bytes of the instruction at s.pc (10_state R31), R after m1 M1 cycles (R33) and t T-states
more in CYCLES (R44); every other field is u's. -/
def State.after (s : State) (len m1 t : Nat) (u : State) : State :=
  { u with pc := s.pc + BitVec.ofNat 16 len, r := bumpR m1 s.r, cycles := s.cycles + t }

/-- u with the control transferred to an address (46_control_transfer). -/
def State.goto (u : State) (target : Word) : State := { u with pc := target }

/-- One byte write: where it is not refused the instruction answers t, where it is refused the instruction is refused
(20_memory R71, R83, R93; 60_exceptions R402). -/
def WritesOne (i : Instr) (s : State) (a : Word) (v : Byte) (t : State) : Prop :=
  (s.store.mapper.refuses a v = false → exec i s = .next t) ∧
  (s.store.mapper.refuses a v = true → exec i s = .refused .unmodelledMapperControl)

/-- Two byte writes, of which none or one may be refused. -/
def WritesTwo (i : Instr) (s : State) (a : Word) (v : Byte) (b : Word) (w : Byte) (t : State) : Prop :=
  ((s.store.mapper.refuses a v || s.store.mapper.refuses b w) = false → exec i s = .next t) ∧
  ((s.store.mapper.refuses a v || s.store.mapper.refuses b w) = true → exec i s = .refused .unmodelledMapperControl)

/-- `MemWrite(a, 2, v)`: the low byte, then the high byte (00_scope R11). -/
def State.wroteWord (s : State) (a v : Word) : State := (s.wrote a (lo v)).wrote (a + 1) (hi v)

/-- `Push16(v)`: the high byte at SP - 1, then the low byte at SP - 2 (00_scope R11). -/
def State.pushed (s : State) (v : Word) : State :=
  { (s.wrote (s.sp - 1) (hi v)).wrote (s.sp - 2) (lo v) with sp := s.sp - 2 }

/-- The kinds without control registers, which refuse no write (20_memory R96, R97). -/
def State.linear (s : State) : Bool := s.store.mapper == .sg1000 || s.store.mapper == .noMapper

/-! Flags -/

/-- The eight bits of F, from S down to C (10_state R27). -/
def FlagsAre (f : Byte) (s z y h x p n c : Bool) : Prop :=
  f.getLsbD 7 = s ∧ f.getLsbD 6 = z ∧ f.getLsbD 5 = y ∧ f.getLsbD 4 = h ∧
    f.getLsbD 3 = x ∧ f.getLsbD 2 = p ∧ f.getLsbD 1 = n ∧ f.getLsbD 0 = c

/-- Two's-complement overflow of a byte (10_state R28). -/
def overflow8 (v : Int) : Bool := decide (v < -128 ∨ 127 < v)

/-- Two's-complement overflow of a word (R28). -/
def overflow16 (v : Int) : Bool := decide (v < -32768 ∨ 32767 < v)

/-- An even number of 1 bits (00_scope R9). -/
def evenOnes (v : Byte) : Bool := ((List.range 8).filter fun k => v.getLsbD k).length % 2 == 0

/-- What the eight rotates and shifts make of the operand v with the old carry c, bit by bit: bit 0 or bit 7 is the one shifted in, the others move by one,
and the carry is the bit shifted out (45_rotate_bit R295 to R302). -/
def Rotated (op : RotOp) (v : Byte) (c : Bool) (res : Byte) (cout : Bool) : Prop :=
  (op = .rlc ∨ op = .rl ∨ op = .sla ∨ op = .sll →
    cout = v.getLsbD 7 ∧ (∀ k < 7, res.getLsbD (k + 1) = v.getLsbD k) ∧
    res.getLsbD 0 = (if op = .rlc then v.getLsbD 7 else if op = .rl then c else decide (op = .sll))) ∧
  (op = .rrc ∨ op = .rr ∨ op = .sra ∨ op = .srl →
    cout = v.getLsbD 0 ∧ (∀ k < 7, res.getLsbD k = v.getLsbD (k + 1)) ∧
    res.getLsbD 7 = (if op = .rrc then v.getLsbD 0 else if op = .rr then c else if op = .sra then v.getLsbD 7 else false))

/-! The operand forms as tables -/

/-- A row of the table of 43_alu8 R240, for one instruction in one state. -/
structure AluForm where
  op : AluOp
  operand : Byte
  len : Nat
  m1 : Nat
  t : Nat
  deriving DecidableEq, Repr

/-- The form of an accumulator operation (R240); none for every other instruction. -/
def aluForm (s : State) : Instr → Option AluForm
  | .addR r => some ⟨.add, s.reg r, 1, 1, 4⟩
  | .addAtHl => some ⟨.add, s.read8 s.hl, 1, 1, 7⟩
  | .addN n => some ⟨.add, n, 2, 1, 7⟩
  | .addIxHalf x => some ⟨.add, s.half .ix x, 2, 2, 8⟩
  | .addAtIx d => some ⟨.add, s.read8 (s.ea .ix d), 3, 2, 19⟩
  | .addIyHalf x => some ⟨.add, s.half .iy x, 2, 2, 8⟩
  | .addAtIy d => some ⟨.add, s.read8 (s.ea .iy d), 3, 2, 19⟩
  | .adcR r => some ⟨.adc, s.reg r, 1, 1, 4⟩
  | .adcAtHl => some ⟨.adc, s.read8 s.hl, 1, 1, 7⟩
  | .adcN n => some ⟨.adc, n, 2, 1, 7⟩
  | .adcIxHalf x => some ⟨.adc, s.half .ix x, 2, 2, 8⟩
  | .adcAtIx d => some ⟨.adc, s.read8 (s.ea .ix d), 3, 2, 19⟩
  | .adcIyHalf x => some ⟨.adc, s.half .iy x, 2, 2, 8⟩
  | .adcAtIy d => some ⟨.adc, s.read8 (s.ea .iy d), 3, 2, 19⟩
  | .subR r => some ⟨.sub, s.reg r, 1, 1, 4⟩
  | .subAtHl => some ⟨.sub, s.read8 s.hl, 1, 1, 7⟩
  | .subN n => some ⟨.sub, n, 2, 1, 7⟩
  | .subIxHalf x => some ⟨.sub, s.half .ix x, 2, 2, 8⟩
  | .subAtIx d => some ⟨.sub, s.read8 (s.ea .ix d), 3, 2, 19⟩
  | .subIyHalf x => some ⟨.sub, s.half .iy x, 2, 2, 8⟩
  | .subAtIy d => some ⟨.sub, s.read8 (s.ea .iy d), 3, 2, 19⟩
  | .sbcR r => some ⟨.sbc, s.reg r, 1, 1, 4⟩
  | .sbcAtHl => some ⟨.sbc, s.read8 s.hl, 1, 1, 7⟩
  | .sbcN n => some ⟨.sbc, n, 2, 1, 7⟩
  | .sbcIxHalf x => some ⟨.sbc, s.half .ix x, 2, 2, 8⟩
  | .sbcAtIx d => some ⟨.sbc, s.read8 (s.ea .ix d), 3, 2, 19⟩
  | .sbcIyHalf x => some ⟨.sbc, s.half .iy x, 2, 2, 8⟩
  | .sbcAtIy d => some ⟨.sbc, s.read8 (s.ea .iy d), 3, 2, 19⟩
  | .andR r => some ⟨.and, s.reg r, 1, 1, 4⟩
  | .andAtHl => some ⟨.and, s.read8 s.hl, 1, 1, 7⟩
  | .andN n => some ⟨.and, n, 2, 1, 7⟩
  | .andIxHalf x => some ⟨.and, s.half .ix x, 2, 2, 8⟩
  | .andAtIx d => some ⟨.and, s.read8 (s.ea .ix d), 3, 2, 19⟩
  | .andIyHalf x => some ⟨.and, s.half .iy x, 2, 2, 8⟩
  | .andAtIy d => some ⟨.and, s.read8 (s.ea .iy d), 3, 2, 19⟩
  | .xorR r => some ⟨.xor, s.reg r, 1, 1, 4⟩
  | .xorAtHl => some ⟨.xor, s.read8 s.hl, 1, 1, 7⟩
  | .xorN n => some ⟨.xor, n, 2, 1, 7⟩
  | .xorIxHalf x => some ⟨.xor, s.half .ix x, 2, 2, 8⟩
  | .xorAtIx d => some ⟨.xor, s.read8 (s.ea .ix d), 3, 2, 19⟩
  | .xorIyHalf x => some ⟨.xor, s.half .iy x, 2, 2, 8⟩
  | .xorAtIy d => some ⟨.xor, s.read8 (s.ea .iy d), 3, 2, 19⟩
  | .orR r => some ⟨.or, s.reg r, 1, 1, 4⟩
  | .orAtHl => some ⟨.or, s.read8 s.hl, 1, 1, 7⟩
  | .orN n => some ⟨.or, n, 2, 1, 7⟩
  | .orIxHalf x => some ⟨.or, s.half .ix x, 2, 2, 8⟩
  | .orAtIx d => some ⟨.or, s.read8 (s.ea .ix d), 3, 2, 19⟩
  | .orIyHalf x => some ⟨.or, s.half .iy x, 2, 2, 8⟩
  | .orAtIy d => some ⟨.or, s.read8 (s.ea .iy d), 3, 2, 19⟩
  | .cpR r => some ⟨.cp, s.reg r, 1, 1, 4⟩
  | .cpAtHl => some ⟨.cp, s.read8 s.hl, 1, 1, 7⟩
  | .cpN n => some ⟨.cp, n, 2, 1, 7⟩
  | .cpIxHalf x => some ⟨.cp, s.half .ix x, 2, 2, 8⟩
  | .cpAtIx d => some ⟨.cp, s.read8 (s.ea .ix d), 3, 2, 19⟩
  | .cpIyHalf x => some ⟨.cp, s.half .iy x, 2, 2, 8⟩
  | .cpAtIy d => some ⟨.cp, s.read8 (s.ea .iy d), 3, 2, 19⟩
  | _ => none

/-- The rotate or shift of a register of the CB table (45_rotate_bit R294). -/
def rotRForm : Instr → Option (RotOp × Reg8)
  | .rlcR r => some (.rlc, r)
  | .rrcR r => some (.rrc, r)
  | .rlR r => some (.rl, r)
  | .rrR r => some (.rr, r)
  | .slaR r => some (.sla, r)
  | .sraR r => some (.sra, r)
  | .sllR r => some (.sll, r)
  | .srlR r => some (.srl, r)
  | _ => none

/-- A row of the table of 45_rotate_bit R294 with a memory operand, for one instruction in one state. -/
structure RotForm where
  op : RotOp
  addr : Word
  copy : Option Reg8
  len : Nat
  t : Nat
  deriving DecidableEq, Repr

/-- The form of a rotate or shift of memory (R294). -/
def rotMemForm (s : State) : Instr → Option RotForm
  | .rlcAtHl => some ⟨.rlc, s.hl, none, 2, 15⟩
  | .rlcAtIx d => some ⟨.rlc, s.ea .ix d, none, 4, 23⟩
  | .rlcAtIxR d r => some ⟨.rlc, s.ea .ix d, some r, 4, 23⟩
  | .rlcAtIy d => some ⟨.rlc, s.ea .iy d, none, 4, 23⟩
  | .rlcAtIyR d r => some ⟨.rlc, s.ea .iy d, some r, 4, 23⟩
  | .rrcAtHl => some ⟨.rrc, s.hl, none, 2, 15⟩
  | .rrcAtIx d => some ⟨.rrc, s.ea .ix d, none, 4, 23⟩
  | .rrcAtIxR d r => some ⟨.rrc, s.ea .ix d, some r, 4, 23⟩
  | .rrcAtIy d => some ⟨.rrc, s.ea .iy d, none, 4, 23⟩
  | .rrcAtIyR d r => some ⟨.rrc, s.ea .iy d, some r, 4, 23⟩
  | .rlAtHl => some ⟨.rl, s.hl, none, 2, 15⟩
  | .rlAtIx d => some ⟨.rl, s.ea .ix d, none, 4, 23⟩
  | .rlAtIxR d r => some ⟨.rl, s.ea .ix d, some r, 4, 23⟩
  | .rlAtIy d => some ⟨.rl, s.ea .iy d, none, 4, 23⟩
  | .rlAtIyR d r => some ⟨.rl, s.ea .iy d, some r, 4, 23⟩
  | .rrAtHl => some ⟨.rr, s.hl, none, 2, 15⟩
  | .rrAtIx d => some ⟨.rr, s.ea .ix d, none, 4, 23⟩
  | .rrAtIxR d r => some ⟨.rr, s.ea .ix d, some r, 4, 23⟩
  | .rrAtIy d => some ⟨.rr, s.ea .iy d, none, 4, 23⟩
  | .rrAtIyR d r => some ⟨.rr, s.ea .iy d, some r, 4, 23⟩
  | .slaAtHl => some ⟨.sla, s.hl, none, 2, 15⟩
  | .slaAtIx d => some ⟨.sla, s.ea .ix d, none, 4, 23⟩
  | .slaAtIxR d r => some ⟨.sla, s.ea .ix d, some r, 4, 23⟩
  | .slaAtIy d => some ⟨.sla, s.ea .iy d, none, 4, 23⟩
  | .slaAtIyR d r => some ⟨.sla, s.ea .iy d, some r, 4, 23⟩
  | .sraAtHl => some ⟨.sra, s.hl, none, 2, 15⟩
  | .sraAtIx d => some ⟨.sra, s.ea .ix d, none, 4, 23⟩
  | .sraAtIxR d r => some ⟨.sra, s.ea .ix d, some r, 4, 23⟩
  | .sraAtIy d => some ⟨.sra, s.ea .iy d, none, 4, 23⟩
  | .sraAtIyR d r => some ⟨.sra, s.ea .iy d, some r, 4, 23⟩
  | .sllAtHl => some ⟨.sll, s.hl, none, 2, 15⟩
  | .sllAtIx d => some ⟨.sll, s.ea .ix d, none, 4, 23⟩
  | .sllAtIxR d r => some ⟨.sll, s.ea .ix d, some r, 4, 23⟩
  | .sllAtIy d => some ⟨.sll, s.ea .iy d, none, 4, 23⟩
  | .sllAtIyR d r => some ⟨.sll, s.ea .iy d, some r, 4, 23⟩
  | .srlAtHl => some ⟨.srl, s.hl, none, 2, 15⟩
  | .srlAtIx d => some ⟨.srl, s.ea .ix d, none, 4, 23⟩
  | .srlAtIxR d r => some ⟨.srl, s.ea .ix d, some r, 4, 23⟩
  | .srlAtIy d => some ⟨.srl, s.ea .iy d, none, 4, 23⟩
  | .srlAtIyR d r => some ⟨.srl, s.ea .iy d, some r, 4, 23⟩
  | _ => none

/-- SET (true) or RES (false) of a bit of memory, with its form (45_rotate_bit R294, R306, R307). -/
structure BitForm where
  on : Bool
  bit : BitVec 3
  addr : Word
  copy : Option Reg8
  len : Nat
  t : Nat
  deriving DecidableEq, Repr

/-- The form of SET or RES of memory (R294). -/
def bitMemForm (s : State) : Instr → Option BitForm
  | .setAtHl b => some ⟨true, b, s.hl, none, 2, 15⟩
  | .setAtIx b d => some ⟨true, b, s.ea .ix d, none, 4, 23⟩
  | .setAtIxR b d r => some ⟨true, b, s.ea .ix d, some r, 4, 23⟩
  | .setAtIy b d => some ⟨true, b, s.ea .iy d, none, 4, 23⟩
  | .setAtIyR b d r => some ⟨true, b, s.ea .iy d, some r, 4, 23⟩
  | .resAtHl b => some ⟨false, b, s.hl, none, 2, 15⟩
  | .resAtIx b d => some ⟨false, b, s.ea .ix d, none, 4, 23⟩
  | .resAtIxR b d r => some ⟨false, b, s.ea .ix d, some r, 4, 23⟩
  | .resAtIy b d => some ⟨false, b, s.ea .iy d, none, 4, 23⟩
  | .resAtIyR b d r => some ⟨false, b, s.ea .iy d, some r, 4, 23⟩
  | _ => none

/-- The copy of a result into a register, for the undocumented forms (R294). -/
def State.copied (s : State) (copy : Option Reg8) (v : Byte) : State :=
  match copy with
  | none => s
  | some r => { s with main := s.main.set r v }

/-! Memory -/

/-- The addresses an instruction stores to, in order, computed in the state before it, without an ignored prefix (40_load8 to
47_io; 00_scope R11). -/
def storeAddrs (s : State) : Instr → List Word
  | .ldAtBcA => [s.bc]
  | .ldAtDeA => [s.de]
  | .ldAtNnA nn => [nn]
  | .ldAtNnHl nn => [nn, nn + 1]
  | .ldAtNnDd nn _ => [nn, nn + 1]
  | .ldAtHlR _ => [s.hl]
  | .ldAtHlN _ => [s.hl]
  | .incAtHl => [s.hl]
  | .decAtHl => [s.hl]
  | .exAtSpHl => [s.sp, s.sp + 1]
  | .pushQq _ => [s.sp - 1, s.sp - 2]
  | .callNn _ => [s.sp - 1, s.sp - 2]
  | .callCcNn cc _ => if s.cond cc then [s.sp - 1, s.sp - 2] else []
  | .rst _ => [s.sp - 1, s.sp - 2]
  | .resAtHl _ => [s.hl]
  | .setAtHl _ => [s.hl]
  | .rrd => [s.hl]
  | .rld => [s.hl]
  | .ldi => [s.de]
  | .ldd => [s.de]
  | .ldir => [s.de]
  | .lddr => [s.de]
  | .ini => [s.hl]
  | .ind => [s.hl]
  | .inir => [s.hl]
  | .indr => [s.hl]
  | .rlcAtHl => [s.hl]
  | .rrcAtHl => [s.hl]
  | .rlAtHl => [s.hl]
  | .rrAtHl => [s.hl]
  | .slaAtHl => [s.hl]
  | .sraAtHl => [s.hl]
  | .sllAtHl => [s.hl]
  | .srlAtHl => [s.hl]
  | .ldAtNnIx nn => [nn, nn + 1]
  | .exAtSpIx => [s.sp, s.sp + 1]
  | .pushIx => [s.sp - 1, s.sp - 2]
  | .ldAtIxN d _ => [s.ea .ix d]
  | .ldAtIxR d _ => [s.ea .ix d]
  | .incAtIx d => [s.ea .ix d]
  | .decAtIx d => [s.ea .ix d]
  | .rlcAtIx d => [s.ea .ix d]
  | .rlcAtIxR d _ => [s.ea .ix d]
  | .rrcAtIx d => [s.ea .ix d]
  | .rrcAtIxR d _ => [s.ea .ix d]
  | .rlAtIx d => [s.ea .ix d]
  | .rlAtIxR d _ => [s.ea .ix d]
  | .rrAtIx d => [s.ea .ix d]
  | .rrAtIxR d _ => [s.ea .ix d]
  | .slaAtIx d => [s.ea .ix d]
  | .slaAtIxR d _ => [s.ea .ix d]
  | .sraAtIx d => [s.ea .ix d]
  | .sraAtIxR d _ => [s.ea .ix d]
  | .sllAtIx d => [s.ea .ix d]
  | .sllAtIxR d _ => [s.ea .ix d]
  | .srlAtIx d => [s.ea .ix d]
  | .srlAtIxR d _ => [s.ea .ix d]
  | .resAtIx _ d => [s.ea .ix d]
  | .resAtIxR _ d _ => [s.ea .ix d]
  | .setAtIx _ d => [s.ea .ix d]
  | .setAtIxR _ d _ => [s.ea .ix d]
  | .ldAtNnIy nn => [nn, nn + 1]
  | .exAtSpIy => [s.sp, s.sp + 1]
  | .pushIy => [s.sp - 1, s.sp - 2]
  | .ldAtIyN d _ => [s.ea .iy d]
  | .ldAtIyR d _ => [s.ea .iy d]
  | .incAtIy d => [s.ea .iy d]
  | .decAtIy d => [s.ea .iy d]
  | .rlcAtIy d => [s.ea .iy d]
  | .rlcAtIyR d _ => [s.ea .iy d]
  | .rrcAtIy d => [s.ea .iy d]
  | .rrcAtIyR d _ => [s.ea .iy d]
  | .rlAtIy d => [s.ea .iy d]
  | .rlAtIyR d _ => [s.ea .iy d]
  | .rrAtIy d => [s.ea .iy d]
  | .rrAtIyR d _ => [s.ea .iy d]
  | .slaAtIy d => [s.ea .iy d]
  | .slaAtIyR d _ => [s.ea .iy d]
  | .sraAtIy d => [s.ea .iy d]
  | .sraAtIyR d _ => [s.ea .iy d]
  | .sllAtIy d => [s.ea .iy d]
  | .sllAtIyR d _ => [s.ea .iy d]
  | .srlAtIy d => [s.ea .iy d]
  | .srlAtIyR d _ => [s.ea .iy d]
  | .resAtIy _ d => [s.ea .iy d]
  | .resAtIyR _ d _ => [s.ea .iy d]
  | .setAtIy _ d => [s.ea .iy d]
  | .setAtIyR _ d _ => [s.ea .iy d]
  | _ => []

/-- No byte written at this address changes a mapper register (20_memory R82, R92, R97). -/
def Mapper.plain (m : Mapper) (a : Word) : Prop := ∀ v, m.control a v = none

/-! The invariant -/

/-- What every reachable state satisfies at a boundary: memories in their canonical form and within their sizes, a legal mapper and a
configuration R74 allows (20_memory); at most `msg_capacity` messages (10_state R46); breakpoint sets without repeats (R45); no unreported
message match; IFF1 only with IFF2 (R34); EI_DEFER only right after an EI, PREFIX_DEFER only right after a lone prefix, neither while halted
(R36 to R38). -/
def State.Inv (s : State) : Prop :=
  s.store.wf = true ∧
  1 ≤ s.params.msgCapacity ∧ s.plane.msgs.length ≤ s.params.msgCapacity ∧ 1 ≤ s.params.disasmCount ∧
  s.plane.pcBps.Nodup ∧ s.plane.msgBps.Nodup ∧ s.plane.msgHit = none ∧
  (s.ctl.iff1 = true → s.ctl.iff2 = true) ∧
  (s.ctl.eiDefer = true → s.ctl.iff1 = true ∧ s.ctl.prefixDefer = false ∧ s.ctl.halted = false) ∧
  (s.ctl.prefixDefer = true → s.ctl.halted = false)

/-- A tick that does nothing but its engine step: no command waits, the core runs, no breakpoint stands at PC, nothing is refused
(60_exceptions R460). -/
def State.Quiet (s : State) : Prop :=
  s.plane.cmdQ = [] ∧ s.plane.execState = .running ∧ s.plane.skipBp = false ∧ s.plane.checkPc s.pc = false ∧
  s.plane.msgHit = none ∧ s.refused = false

end Sys2Proof.Machine
end

