-- ==== Sys2Proof/Certificates/Slice0/Obligations.lean ====
section
/-! DEFINITION. The statements for the provers, in the order of OBLIGATIONS.json. -/

open Sys2Proof Sys2Proof.Machine

/-! Encoding -/

/-- Decoding the bytes of any well-formed instruction gives it back, with whatever stands behind it left over: no field of any encoding is
lost. A lone prefix is one only before another prefix byte (30_encoding R110 to R129). -/
def Obligations.EncodeThenDecode : Prop :=
  ∀ (i : Instr) (rest : List Byte), i.wellFormed = true →
    (i.isLonePrefix = true → rest.head? = some 0xDD ∨ rest.head? = some 0xED ∨ rest.head? = some 0xFD) →
    decode (i.encode ++ rest) = .ok (i, rest)

/-- Decoding is total on any four bytes: one well-formed instruction of 1 to 4 bytes, whose encoding is the bytes it was read from
(30_encoding R136). -/
def Obligations.DecodingIsTotal : Prop :=
  ∀ b0 b1 b2 b3 : Byte,
    (decode4 b0 b1 b2 b3).wellFormed = true ∧
    1 ≤ (decode4 b0 b1 b2 b3).length ∧ (decode4 b0 b1 b2 b3).length ≤ 4 ∧
    (decode4 b0 b1 b2 b3).encode = [b0, b1, b2, b3].take (decode4 b0 b1 b2 b3).length

/-- Words written out from the encodings of 30_encoding, one or more of each table, decode to the instructions they stand for. -/
def Obligations.WordsDecode : Prop :=
  decode4 0x41 0 0 0 = .ldRR .b .c ∧
  decode4 0x3E 0x05 0 0 = .ldRN .a 5 ∧
  decode4 0x21 0x34 0x12 0 = .ldDdNn .hl 0x1234 ∧
  decode4 0x30 0x10 0 0 = .jrCc .nc 0x10 ∧
  decode4 0xFC 0x00 0x20 0 = .callCcNn .m 0x2000 ∧
  decode4 0xDF 0 0 0 = .rst 3 ∧
  decode4 0xCB 0x37 0 0 = .sllR .a ∧
  decode4 0xCB 0x7E 0 0 = .bitAtHl 7 ∧
  decode4 0xED 0x5B 0x10 0xC0 = .ldDdAtNn .de 0xC010 ∧
  decode4 0xED 0x6E 0 0 = .im0 5 ∧
  decode4 0xED 0xB0 0 0 = .ldir ∧
  decode4 0xED 0xA4 0 0 = .nopEd2 0x24 ∧
  decode4 0xDD 0x66 0xFE 0 = .ldRAtIx .h 0xFE ∧
  decode4 0xDD 0x65 0 0 = .ldRRIx .xh .xl ∧
  decode4 0xFD 0x36 0x05 0xAB = .ldAtIyN 0x05 0xAB ∧
  decode4 0xFD 0xCB 0x05 0xC0 = .setAtIyR 0 0x05 .b ∧
  decode4 0xDD 0xEB 0 0 = .ignoredDd .exDeHl ∧
  decode4 0xFD 0xED 0x44 0 = .loneFd

/-- The set AFF has 86 values; a DD or FD before one of them is not ignored; before DD, ED or FD it is a lone prefix; before every other
opcode it is ignored and the base instruction runs (30_encoding R123, R125, R126). -/
def Obligations.PrefixedOpcodes : Prop :=
  affected.length = 86 ∧ affected.Nodup ∧
  ∀ op b2 b3 : Byte,
    ((op = 0xDD ∨ op = 0xED ∨ op = 0xFD) → decode4 0xDD op b2 b3 = .loneDd ∧ decode4 0xFD op b2 b3 = .loneFd) ∧
    (¬ (op = 0xDD ∨ op = 0xED ∨ op = 0xFD) →
      (op ∉ affected ↔ decode4 0xDD op b2 b3 = .ignoredDd (decode4 op b2 b3 0)) ∧
      (op ∉ affected ↔ decode4 0xFD op b2 b3 = .ignoredFd (decode4 op b2 b3 0)))

/-- Disassembly and execution use one decoder: a line's bytes are the encoding of the instruction that would run at its address, its width
is their number, and the lines follow one another without a gap (30_encoding R135; 60_exceptions R461). -/
def Obligations.DisassemblyNamesTheStep : Prop :=
  ∀ (s : State) (a : Word) (n : Nat),
    (s.disasmLine a).addr = a ∧
    (s.disasmLine a).bytes = (s.instrAt a).encode ∧
    (s.disasmLine a).length = (s.disasmLine a).bytes.length ∧
    (s.disasmLine a).text = (s.instrAt a).text (a + BitVec.ofNat 16 (s.instrAt a).length) ∧
    s.disassemble a 0 = [] ∧
    s.disassemble a (n + 1) = s.disasmLine a :: s.disassemble (a + BitVec.ofNat 16 (s.disasmLine a).bytes.length) n

/-! The whole machine -/

/-- When the bytes at PC decode to an instruction and no interrupt, halt, command, breakpoint or refusal stands before it, the step is exec of
that instruction in the state with the two deferral bits cleared; around it, a message that matches holds the core with its report, and a
refusal of R402 leaves the state as it was but for REFUSED (60_exceptions R402, R420, R421, R441, R460). -/
def Obligations.StepRunsTheInstruction : Prop :=
  ∀ (s : State) (i : Instr) (rest : List Byte),
    s.Quiet → s.kind = .instr →
    decode [s.read8 s.pc, s.read8 (s.pc + 1), s.read8 (s.pc + 2), s.read8 (s.pc + 3)] = .ok (i, rest) →
    (∀ t, exec i { s with ctl := { s.ctl with eiDefer := false, prefixDefer := false } } = .next t →
      t.plane.msgHit = none → step s = .next t) ∧
    (∀ t x, exec i { s with ctl := { s.ctl with eiDefer := false, prefixDefer := false } } = .next t →
      t.plane.msgHit = some x →
      step s = .next { t with plane := { t.plane with
        execState := .held, msgHit := none, reports := t.plane.reports ++ [.messageBreak x] } }) ∧
    (∀ e, exec i { s with ctl := { s.ctl with eiDefer := false, prefixDefer := false } } = .refused e →
      e = .unmodelledMapperControl ∧ step s = .next { s with refused := true })

/-- No step faults and none stops: from every state a step answers a next state (60_exceptions R400, R402, R403). -/
def Obligations.EveryStepAnswersNext : Prop :=
  ∀ s : State, ∃ t, step s = .next t

/-- The invariant holds after reset (its registers and memory are the model's choices, log entries 1 to 4). -/
def Obligations.InvAtReset : Prop := State.reset.Inv

/-- State.reset is the state that `configure` answers for the start state of 95_test_vectors: kind None, an image of 48 KiB of zeros, 8 KiB of RAM, every
draw 0 (the draws and parameters are the model's choices, log entries 1 to 4). -/
def Obligations.ResetIsTheStartState : Prop :=
  configure { kind := some .noMapper, romImage := List.replicate 49152 0, ramSize := 8192, ramInit := [], cartInit := [],
              fill := ResetFill.zero, params := Params.reset, startHeld := false } = .next State.reset

/-- Every step keeps the invariant, from every state that has it, reachable or not. -/
def Obligations.EveryStepKeepsInv : Prop :=
  ∀ s t : State, s.Inv → step s = .next t → t.Inv

/-- A step costs at most 23 T-states and CYCLES never goes down; it stays only where the step runs nothing: Held, REFUSED, a PC breakpoint or
a refusal (70_reset_and_hazards R500, R502). -/
def Obligations.StepCost : Prop :=
  ∀ s t : State, step s = .next t →
    s.cycles ≤ t.cycles ∧ t.cycles ≤ s.cycles + 23 ∧
    (t.cycles = s.cycles → t.plane.execState = .held ∨ t.refused = true)

/-- REFUSED is never cleared by a step; while it is 1 a step applies commands and does nothing else: of the whole state only the registry and
the debug control state can change (60_exceptions R402, R460; that commands are still applied is log entry 23). -/
def Obligations.RefusedStays : Prop :=
  ∀ s t : State, s.refused = true → step s = .next t → t = { s with plane := t.plane }

/-- No step changes the configuration: the ROM image and its length, the RAM size, the mapper kind and the parameters
(00_scope R8; 10_state R42). -/
def Obligations.ConfigurationIsFixed : Prop :=
  ∀ s t : State, step s = .next t →
    t.store.rom = s.store.rom ∧ t.store.romLen = s.store.romLen ∧ t.store.ramSize = s.store.ramSize ∧
    t.store.mapper.kind = s.store.mapper.kind ∧ t.params = s.params

/-- Only EX AF,AF' and EXX reach the alternate register set: every other instruction leaves it unchanged, and answers the same whatever it
holds (10_state R23). -/
def Obligations.OnlyExchangesReachTheAlternateSet : Prop :=
  ∀ (i : Instr) (s t : State), i.wellFormed = true → exec i s = .next t →
    i.core ≠ .exAfAf → i.core ≠ .exx →
    t.alt = s.alt ∧ ∀ k : Bank, exec i { s with alt := k } = .next { t with alt := k }

/-- Who writes the special registers: I only LD I,A (10_state R32); IM only the IM instructions (R35); IFF1 and IFF2 only DI, EI, RETN and
RETI (R34); HALTED only HALT (R36); SP only the instructions of R26; the I/O space only the instructions of 20_memory R62. No instruction
changes the pending bits, REFUSED or the debug plane's control state, and without a message none changes the registry at all. -/
def Obligations.SpecialRegisterWriters : Prop :=
  ∀ (i : Instr) (s t : State), i.wellFormed = true → exec i s = .next t →
    (t.i ≠ s.i → i.core = .ldIA) ∧
    (t.ctl.im ≠ s.ctl.im → ∃ y, i.core = .im0 y ∨ i.core = .im1 y ∨ i.core = .im2 y) ∧
    (t.ctl.iff1 ≠ s.ctl.iff1 ∨ t.ctl.iff2 ≠ s.ctl.iff2 →
      i.core = .di ∨ i.core = .ei ∨ i.core = .reti ∨ ∃ y, i.core = .retn y) ∧
    (t.ctl.halted ≠ s.ctl.halted → i.core = .halt) ∧
    (t.ctl.eiDefer ≠ s.ctl.eiDefer → i.core = .ei) ∧
    (t.ctl.prefixDefer ≠ s.ctl.prefixDefer → i.isLonePrefix = true) ∧
    (t.sp ≠ s.sp → i.core.writesSp = true) ∧
    (t.io ≠ s.io → i.core.usesIo = true) ∧
    t.ctl.nmiPending = s.ctl.nmiPending ∧ t.ctl.intPending = s.ctl.intPending ∧ t.refused = s.refused ∧
    t.plane = { s.plane with msgs := t.plane.msgs, msgHit := t.plane.msgHit } ∧
    (s.params.logUndefined = false → s.params.logRomWrites = false → t.plane = s.plane)

/-- An instruction without a DD prefix leaves IX unchanged, one without an FD prefix leaves IY unchanged (10_state R25; 30_encoding R121). -/
def Obligations.IndexRegistersNeedTheirPrefix : Prop :=
  ∀ (i : Instr) (s t : State), i.wellFormed = true → exec i s = .next t →
    (i.encode.head? ≠ some 0xDD → t.ix = s.ix) ∧ (i.encode.head? ≠ some 0xFD → t.iy = s.iy)

/-- R counts M1 cycles: bits 6:0 go up by their number modulo 128 and bit 7 stays, in every instruction but LD R,A (10_state R33). -/
def Obligations.RefreshRegisterCounts : Prop :=
  ∀ (i : Instr) (s t : State), i.wellFormed = true → exec i s = .next t → i.core ≠ .ldRA →
    t.r.toNat % 128 = (s.r.toNat + i.m1) % 128 ∧ t.r.getLsbD 7 = s.r.getLsbD 7

/-- PC advances past the whole instruction, modulo 2^16, unless the instruction transfers control; a repeating block instruction ends past
itself or at its own first byte (10_state R31; 42_block R214). -/
def Obligations.PcAdvances : Prop :=
  ∀ (i : Instr) (s t : State), i.wellFormed = true → exec i s = .next t →
    (i.core.transfers = false → i.core.repeats = false → t.pc = s.pc + BitVec.ofNat 16 i.length) ∧
    (i.core.repeats = true → t.pc = s.pc + 2 ∨ t.pc = s.pc)

/-- An instruction that does not write F leaves every flag unchanged (the Flags entries of the rules of 40_load8 to 48_cpu_control). -/
def Obligations.FlagFrame : Prop :=
  ∀ (i : Instr) (s t : State), i.wellFormed = true → exec i s = .next t →
    i.core.writesFlags = false → t.main.f = s.main.f

/-- Every byte of memory is unchanged except the bytes the instruction stores to: every physical byte outside the locations of its stored
addresses; and, where none of those addresses is a mapper control address, every address that leads elsewhere reads as before. An
instruction that stores nothing leaves memory and mapper as they were. -/
def Obligations.MemoryFrame : Prop :=
  ∀ (i : Instr) (s t : State), i.wellFormed = true → exec i s = .next t →
    (∀ l, l ∉ (storeAddrs s i.core).map s.store.locate → t.store.readLoc l = s.store.readLoc l) ∧
    ((∀ a ∈ storeAddrs s i.core, s.store.mapper.plain a) →
      ∀ b, s.store.locate b ∉ (storeAddrs s i.core).map s.store.locate → t.read8 b = s.read8 b) ∧
    (storeAddrs s i.core = [] → t.store = s.store)

/-- Each deferral bit blocks exactly one boundary: after a step that is not refused, EI_DEFER is 1 only if the step ran an EI and PREFIX_DEFER
only if it ran a lone prefix (60_exceptions R421). -/
def Obligations.DeferralLastsOneBoundary : Prop :=
  ∀ s t : State, s.refused = false → s.engineStep = .next t → t.refused = false →
    (t.ctl.eiDefer = true ↔ s.kind = .instr ∧ s.nextInstr.core = .ei) ∧
    (t.ctl.prefixDefer = true ↔ s.kind = .instr ∧ s.nextInstr.isLonePrefix = true)

/-- `reset()`: PC, I, R, IFF1, IFF2, IM, HALTED and the deferral and pending bits take their reset values, the registers take `reset_fill`, and
nothing else changes (70_reset_and_hazards R480). -/
def Obligations.CpuReset : Prop :=
  ∀ (s : State) (fill : ResetFill),
    s.cpuReset fill =
      { s with
        pc := 0x0000, i := 0x00, r := 0x00
        ctl := { iff1 := false, iff2 := false, im := .mode0, halted := false, eiDefer := false, prefixDefer := false,
                 nmiPending := false, intPending := false }
        main := fill.main, alt := fill.alt, ix := fill.ix, iy := fill.iy, sp := fill.sp }

/-! Memory and mapper -/

/-- The read map of every kind: system RAM, mirrored, from 0xC000 on; below it the windows of the Standard and the CodeMasters mapper with the
page numbers modulo the number of pages, and the linear image of SG1000 and None (20_memory R73, R75, R81, R91, R96). -/
def Obligations.ReadMap : Prop :=
  ∀ (st : Store) (addr : Word), let a := addr.toNat
    (0xC000 ≤ a → st.read addr = Memory.read st.ram ((a - 0xC000) % st.ramSize)) ∧
    (∀ g, st.mapper = .standard g →
      (a < 0x0400 → st.read addr = Memory.read st.rom a) ∧
      (0x0400 ≤ a → a < 0x4000 →
        st.read addr = Memory.read st.rom (g.bank0.toNat % (st.romLen / 16384) * 16384 + a)) ∧
      (0x4000 ≤ a → a < 0x8000 →
        st.read addr = Memory.read st.rom (g.bank1.toNat % (st.romLen / 16384) * 16384 + (a - 0x4000))) ∧
      (0x8000 ≤ a → a < 0xC000 →
        (g.ramctl.getLsbD 3 = true →
          st.read addr = Memory.read st.cart ((g.ramctl.getLsbD 2).toNat * 16384 + (a - 0x8000))) ∧
        (g.ramctl.getLsbD 3 = false →
          st.read addr = Memory.read st.rom (g.bank2.toNat % (st.romLen / 16384) * 16384 + (a - 0x8000))))) ∧
    (∀ g, st.mapper = .codeMasters g →
      (a < 0x4000 → st.read addr = Memory.read st.rom (g.cm0.toNat % (st.romLen / 16384) * 16384 + a % 16384)) ∧
      (0x4000 ≤ a → a < 0x8000 →
        st.read addr = Memory.read st.rom (g.cm1.toNat % (st.romLen / 16384) * 16384 + a % 16384)) ∧
      (0x8000 ≤ a → a < 0xC000 →
        st.read addr = Memory.read st.rom (g.cm2.toNat % (st.romLen / 16384) * 16384 + a % 16384))) ∧
    (st.mapper = .sg1000 ∨ st.mapper = .noMapper →
      (a < 0xC000 → a < st.romLen → st.read addr = Memory.read st.rom a) ∧
      (a < 0xC000 → st.romLen ≤ a → st.read addr = Config.unmappedRead addr))

/-- On the Standard mapper, writing p to 0xFFFF and reading in window 2 gives the byte of ROM page p modulo the number of pages where RAMCTL[3]
is 0, and the cartridge RAM byte where it is 1 (20_memory R101). -/
def Obligations.WindowTwoShowsThePageWritten : Prop :=
  ∀ (s t : State) (g : StandardRegs) (p : Byte) (addr : Word),
    s.store.mapper = .standard g → s.write8 0xFFFF p = .next t → 0x8000 ≤ addr.toNat → addr.toNat < 0xC000 →
    (g.ramctl.getLsbD 3 = false →
      t.read8 addr = Memory.read s.store.rom (p.toNat % (s.store.romLen / 16384) * 16384 + (addr.toNat - 0x8000))) ∧
    (g.ramctl.getLsbD 3 = true →
      t.read8 addr = Memory.read s.store.cart ((g.ramctl.getLsbD 2).toNat * 16384 + (addr.toNat - 0x8000)))

/-- Read after write: an address that leads to RAM reads the byte just written; a write that leads to ROM and is at no control address changes no
byte and no register; a write never changes a byte at another location, and none of the CPU (20_memory R71, R82, R92, R97, R100). -/
def Obligations.ReadAfterWrite : Prop :=
  ∀ (s t : State) (a : Word) (v : Byte), s.write8 a v = .next t →
    ((s.store.locate a).writable = true → t.read8 a = v) ∧
    ((s.store.locate a).writable = false → s.store.mapper.control a v = none → t.store = s.store) ∧
    (∀ l, l ≠ s.store.locate a → t.store.readLoc l = s.store.readLoc l) ∧
    (∀ b, s.store.mapper.control a v = none → s.store.locate b ≠ s.store.locate a → t.read8 b = s.read8 b) ∧
    t = { s with store := t.store, plane := t.plane }

/-- The control addresses: 0xFFFC to 0xFFFF set RAMCTL, BANK0, BANK1, BANK2 of the Standard mapper, 0x0000, 0x4000, 0x8000 set CM0, CM1, CM2 of the
CodeMasters mapper, no other write changes a register; a write is refused exactly where R83 and R93 say so (20_memory R80, R82, R83, R90, R92,
R93, R97). -/
def Obligations.ControlWrites : Prop :=
  ∀ (s : State) (a : Word) (v : Byte),
    (s.write8 a v = .refused .unmodelledMapperControl ↔
      (s.store.mapper.kind = .standard ∧ a = 0xFFFC ∧ (v.getLsbD 0 = true ∨ v.getLsbD 1 = true ∨ v.getLsbD 4 = true)) ∨
      (s.store.mapper.kind = .codeMasters ∧ a = 0x4000 ∧ v.getLsbD 7 = true)) ∧
    (∀ t, s.write8 a v = .next t →
      (∀ g, s.store.mapper = .standard g →
        t.store.mapper = .standard
          { ramctl := if a = 0xFFFC then v else g.ramctl
            bank0 := if a = 0xFFFD then v else g.bank0
            bank1 := if a = 0xFFFE then v else g.bank1
            bank2 := if a = 0xFFFF then v else g.bank2 }) ∧
      (∀ g, s.store.mapper = .codeMasters g →
        t.store.mapper = .codeMasters
          { cm0 := if a = 0x0000 then v else g.cm0
            cm1 := if a = 0x4000 then v else g.cm1
            cm2 := if a = 0x8000 then v else g.cm2 }) ∧
      (s.linear = true → t.store.mapper = s.store.mapper))

/-! Interrupts -/

/-- The acceptance rule in one line for each kind of step, with the NMI before the INT (60_exceptions R411, R413, R420, R422), and the halted idle
period: R counts one M1 cycle, 4 T-states, nothing else but the deferral bits (R428). -/
def Obligations.AcceptanceRule : Prop :=
  ∀ s : State,
    (s.kind = .nmiAccept ↔ s.ctl.nmiPending = true ∧ s.ctl.prefixDefer = false) ∧
    (s.kind = .intAccept ↔ s.kind ≠ .nmiAccept ∧ s.ctl.intPending = true ∧ s.ctl.iff1 = true ∧
      s.ctl.eiDefer = false ∧ s.ctl.prefixDefer = false) ∧
    (s.kind = .idle ↔ s.kind ≠ .nmiAccept ∧ s.kind ≠ .intAccept ∧ s.ctl.halted = true) ∧
    (s.refused = false → s.plane.msgHit = none → s.kind = .idle →
      s.engineStep = .next { s with
        r := bumpR 1 s.r, cycles := s.cycles + 4, ctl := { s.ctl with eiDefer := false, prefixDefer := false } })

/-- Taking an NMI: IFF1 saved in IFF2 and cleared, the request and HALTED cleared, the address of the next instruction pushed, PC at 0x0066, R one M1
cycle on, 11 T-states, the deferral bits cleared, and nothing else; where the push is refused, only REFUSED changes (60_exceptions R423, R421, R402;
20_memory R83, R93; log entry 9). -/
def Obligations.NmiAcceptance : Prop :=
  ∀ s : State, s.refused = false → s.plane.msgHit = none → s.kind = .nmiAccept →
    let refusal := s.store.mapper.refuses (s.sp - 1) (hi s.pc) || s.store.mapper.refuses (s.sp - 2) (lo s.pc)
    (refusal = false → s.engineStep = .next { s.pushed s.pc with
      pc := 0x0066, r := bumpR 1 s.r, cycles := s.cycles + 11
      ctl := { s.ctl with nmiPending := false, halted := false, iff1 := false, iff2 := s.ctl.iff1,
                          eiDefer := false, prefixDefer := false } }) ∧
    (refusal = true → s.engineStep = .next { s with refused := true })

/-- Taking an INT: both enables, the request and HALTED cleared, the address of the next instruction pushed, R one M1 cycle on; then mode 0 goes to the
RST address of the bus byte (13 T-states) or, with a byte that is no RST, is refused; mode 1 goes to 0x0038 (13); mode 2 goes to the word at
I ++ bus_byte as read after the push (19) (60_exceptions R424 to R427, R402). -/
def Obligations.IntAcceptance : Prop :=
  ∀ s : State, s.refused = false → s.plane.msgHit = none → s.kind = .intAccept →
    let refusal := s.store.mapper.refuses (s.sp - 1) (hi s.pc) || s.store.mapper.refuses (s.sp - 2) (lo s.pc)
    let taken (target : Word) (t : Nat) : State := { s.pushed s.pc with
      pc := target, r := bumpR 1 s.r, cycles := s.cycles + t
      ctl := { s.ctl with intPending := false, halted := false, iff1 := false, iff2 := false,
                          eiDefer := false, prefixDefer := false } }
    (refusal = false → s.ctl.im = .mode1 → s.engineStep = .next (taken 0x0038 13)) ∧
    (refusal = false → s.ctl.im = .mode2 →
      s.engineStep = .next (taken ((s.pushed s.pc).read16 (join s.i s.params.busByte)) 19)) ∧
    (refusal = false → s.ctl.im = .mode0 → ∀ y : BitVec 3, s.params.busByte.toNat = 199 + 8 * y.toNat →
      s.engineStep = .next (taken (BitVec.ofNat 16 (8 * y.toNat)) 13)) ∧
    (s.ctl.im = .mode0 → (∀ y : BitVec 3, s.params.busByte.toNat ≠ 199 + 8 * y.toNat) →
      s.engineStep = .next { s with refused := true }) ∧
    (refusal = true → s.engineStep = .next { s with refused := true })

/-! The debug plane and the host -/

/-- What each command does to EXEC, SKIP_BP, the breakpoint sets and the reports; no command changes anything else of the state
(60_exceptions R450, R452 to R459, R461, R462). -/
def Obligations.CommandEffects : Prop :=
  ∀ s : State,
    (∀ c, ∃ g, s.command c = { s with plane := g }) ∧
    (s.command .hold).plane = { s.plane with execState := .held } ∧
    (s.plane.execState = .held →
      (s.command .resume).plane = { s.plane with execState := .running, skipBp := true } ∧
      (s.command .step).plane = { s.plane with execState := .singleStepPending, skipBp := true }) ∧
    (s.plane.execState = .singleStepPending →
      (s.command .resume).plane = { s.plane with execState := .running } ∧ s.command .step = s) ∧
    (s.plane.execState = .running →
      s.command .resume = s ∧ (s.command .step).plane = { s.plane with execState := .singleStepPending }) ∧
    (∀ a x, (x ∈ (s.command (.breakAtPc a)).plane.pcBps ↔ x = a ∨ x ∈ s.plane.pcBps) ∧
      (s.command (.breakAtPc a)).plane = { s.plane with pcBps := (s.command (.breakAtPc a)).plane.pcBps }) ∧
    (s.command .removePcBreakpoints).plane = { s.plane with pcBps := [] } ∧
    (∀ p x, (x ∈ (s.command (.breakAtMessage p)).plane.msgBps ↔ x = p ∨ x ∈ s.plane.msgBps) ∧
      (s.command (.breakAtMessage p)).plane = { s.plane with msgBps := (s.command (.breakAtMessage p)).plane.msgBps }) ∧
    (s.command .removeBreakMessages).plane = { s.plane with msgBps := [] } ∧
    (s.plane.msgs.length ≤ s.params.msgCapacity → (s.command .showRecentMessages).plane =
      { s.plane with reports := s.plane.reports ++ [.recentMessages s.plane.msgs] }) ∧
    (s.command .status).plane = { s.plane with reports := s.plane.reports ++ [.statusView s.statusView] } ∧
    (∀ a n, (s.command (.disassemble (some a) (some n))).plane =
      { s.plane with reports := s.plane.reports ++ [.disassembly (s.disassemble a n)] }) ∧
    (s.command (.disassemble none none)).plane =
      { s.plane with reports := s.plane.reports ++ [.disassembly (s.disassemble s.pc s.params.disasmCount)] }

/-- A tick applies the queued commands in order, the whole queue if it holds no Step, else up to and with the first Step, leaving the commands behind
it queued (60_exceptions R451). -/
def Obligations.DispatchOrder : Prop :=
  ∀ (s : State) (before behind : List Command), Command.step ∉ before →
    (s.plane.cmdQ = before → s.dispatch = (before.foldl State.command s).setQueue []) ∧
    (s.plane.cmdQ = before ++ Command.step :: behind →
      s.dispatch = ((before.foldl State.command s).command .step).setQueue behind)

/-- The PC check of a tick: with the core not Held and no SKIP_BP, a breakpoint at PC holds the core with its report before the step, whatever
interrupt is pending, but not before a halted idle period; SKIP_BP passes the first boundary that would make the check and is then 0, while an
idle period leaves it as it was; a Held core does nothing; and no report names another address than the PC at which the core then holds
(60_exceptions R440, R443; 90_conflicts C4; that C4 and not R460's code decides about the idle period is log entry 28). -/
def Obligations.BreakpointsHold : Prop :=
  ∀ s t : State, s.plane.cmdQ = [] → s.refused = false → step s = .next t →
    (s.plane.execState = .held → t = s) ∧
    (s.plane.execState ≠ .held → s.plane.skipBp = false → s.kind ≠ .idle → s.pc ∈ s.plane.pcBps →
      t = { s with plane := { s.plane with
        execState := .held, reports := s.plane.reports ++ [.breakpointHit s.pc] } }) ∧
    (s.plane.execState ≠ .held → (s.plane.skipBp = true ∨ s.kind = .idle ∨ s.pc ∉ s.plane.pcBps) →
      let skip := decide (s.kind = .idle) && s.plane.skipBp
      ∃ u, ({ s with plane := { s.plane with skipBp := skip } } : State).engineStep = .next u ∧
        t.plane.skipBp = skip ∧ t.cycles = u.cycles ∧ t.pc = u.pc ∧ t.main = u.main ∧ t.store = u.store) ∧
    (∀ x, t.plane.reports = s.plane.reports ++ [.breakpointHit x] → x = s.pc ∧ t.pc = s.pc ∧ x ∈ s.plane.pcBps)

/-- A Step command to a Held core runs exactly one engine step, breakpoint or not, and the core is Held again; SKIP_BP is then 0, or 1 where the step
was a halted idle period (60_exceptions R443, R458; log entry 28). -/
def Obligations.SingleStepFromHeld : Prop :=
  ∀ s : State, s.plane.execState = .held → s.plane.cmdQ = [.step] → s.refused = false →
    let skip := decide (s.kind = .idle)
    ∃ t u, ({ s with plane := { s.plane with execState := .singleStepPending, cmdQ := [], skipBp := skip } } : State).engineStep
        = .next u ∧
      step s = .next t ∧ t.plane.execState = .held ∧ t.plane.skipBp = skip ∧
      t = { u with plane := t.plane }

/-- A message goes to the end of MSGS, which drops its oldest first when it is full; the step is marked when a message breakpoint matches the text
under the configured matcher; nothing else of the state changes. The default matcher is the substring match, which the empty pattern always
meets (60_exceptions R441, R444; 10_state R46; the form of the parameter `msg_match` is log entry 8). -/
def Obligations.Messages : Prop :=
  ∀ (s : State) (ev : MsgEvent), let text := Config.msgText ev
    s.emit ev = { s with plane := { s.plane with msgs := (s.emit ev).plane.msgs, msgHit := (s.emit ev).plane.msgHit } } ∧
    (s.plane.msgs.length < s.params.msgCapacity → (s.emit ev).plane.msgs = s.plane.msgs ++ [text]) ∧
    (s.plane.msgs.length = s.params.msgCapacity → (s.emit ev).plane.msgs = s.plane.msgs.drop 1 ++ [text]) ∧
    (s.plane.msgHit = none →
      ((s.emit ev).plane.msgHit = some text ↔ ∃ p ∈ s.plane.msgBps, msgMatch s.params.matcher p text = true) ∧
      ((s.emit ev).plane.msgHit = none ↔ ¬ ∃ p ∈ s.plane.msgBps, msgMatch s.params.matcher p text = true)) ∧
    (s.params.matcher = .substring →
      ∀ p t : Text, msgMatch s.params.matcher p t = true ↔
        ∃ before behind : List Char, t.toList = before ++ p.toList ++ behind)

/-- `request_interrupt` sets INT_PENDING or NMI_PENDING, and nothing else changes; the request acts at the next boundary under R411 to R413, and
waits while the core is Held (60_exceptions R466). -/
def Obligations.InterruptRequest : Prop :=
  ∀ s : State,
    s.requestInterrupt true = { s with ctl := { s.ctl with intPending := true } } ∧
    s.requestInterrupt false = { s with ctl := { s.ctl with nmiPending := true } } ∧
    ((s.requestInterrupt false).kind = .nmiAccept ↔ s.ctl.prefixDefer = false) ∧
    ((s.requestInterrupt true).kind = .intAccept ↔
      s.ctl.nmiPending = false ∧ s.ctl.iff1 = true ∧ s.ctl.eiDefer = false ∧ s.ctl.prefixDefer = false) ∧
    (s.plane.execState = .held → s.plane.cmdQ = [] →
      ∀ m, (s.requestInterrupt m).tick = .next (s.requestInterrupt m))

/-- A snapshot restored into a state of the same configuration brings back every field of 10_state R51 and leaves the registry, the debug control state,
REFUSED and the parameters; with another kind, RAM size or image it fails with InvalidSnapshot and changes nothing (60_exceptions R467, R468). -/
def Obligations.SnapshotRestore : Prop :=
  ∀ s u : State, s.store.wf = true →
    (u.store.mapper.kind = s.store.mapper.kind → u.store.ramSize = s.store.ramSize → u.store.romLen = s.store.romLen →
      u.store.rom = s.store.rom →
      ∃ t, u.restore s.snapshot = .next t ∧ t.snapshot = s.snapshot ∧ t.plane = u.plane ∧ t.refused = u.refused ∧
        t.params = u.params) ∧
    (u.store.mapper.kind ≠ s.store.mapper.kind ∨ u.store.ramSize ≠ s.store.ramSize ∨ u.store.romLen ≠ s.store.romLen ∨
      u.store.rom ≠ s.store.rom → u.restore s.snapshot = .fault .invalidSnapshot)

/-- `configure` fails exactly in the cases of R74; else it answers a state with the invariant, the mapper registers of R99, PC, I, R and CYCLES 0, interrupts
disabled in mode 0, and the byte 0 of the image at address 0 (20_memory R74, R99; 70_reset_and_hazards R481). -/
def Obligations.ConfigureBuildsALegalState : Prop :=
  ∀ c : Configuration, 1 ≤ c.params.msgCapacity → 1 ≤ c.params.disasmCount →
    (configure c = .fault .fatalConfiguration ↔
      c.kind = none ∨ c.romImage = [] ∨
      ((c.kind = some .standard ∨ c.kind = some .codeMasters) ∧ c.romImage.length % 16384 ≠ 0) ∨
      ((c.kind = some .sg1000 ∨ c.kind = some .noMapper) ∧ 49152 < c.romImage.length) ∨
      ¬ (∃ k, c.ramSize = 2 ^ k ∧ 1024 ≤ c.ramSize ∧ c.ramSize ≤ 16384)) ∧
    (∀ s, configure c = .next s →
      s.Inv ∧ s.pc = 0 ∧ s.i = 0 ∧ s.r = 0 ∧ s.cycles = 0 ∧ s.ctl.iff1 = false ∧ s.ctl.iff2 = false ∧ s.ctl.im = .mode0 ∧
      some (s.read8 0) = c.romImage.head? ∧
      (c.kind = some .standard → s.store.mapper = .standard { ramctl := 0, bank0 := 0, bank1 := 1, bank2 := 2 }) ∧
      (c.kind = some .codeMasters → s.store.mapper = .codeMasters { cm0 := 0, cm1 := 1, cm2 := 2 }))

/-! Instructions: what each answers, with everything it leaves unchanged. `s.after len m1 t u` is u with PC past the instruction, R and CYCLES on; what
no clause changes is as in s. -/

/-- 8-bit loads into a register (40_load8 R150 to R152, R155, R158 to R160, R168, R169). -/
def Obligations.LoadRegister8 : Prop :=
  ∀ (s : State) (r r2 : Reg8) (x x2 : RegX) (h : Half) (n d : Byte) (nn : Word),
    exec (.ldRR r r2) s = .next (s.after 1 1 4 { s with main := s.main.set r (s.main.get r2) }) ∧
    exec (.ldRN r n) s = .next (s.after 2 1 7 { s with main := s.main.set r n }) ∧
    exec (.ldRAtHl r) s = .next (s.after 1 1 7 { s with main := s.main.set r (s.read8 s.hl) }) ∧
    exec (.ldRAtIx r d) s = .next (s.after 3 2 19 { s with main := s.main.set r (s.read8 (s.ix + sext d)) }) ∧
    exec (.ldRAtIy r d) s = .next (s.after 3 2 19 { s with main := s.main.set r (s.read8 (s.iy + sext d)) }) ∧
    exec .ldAAtBc s = .next (s.after 1 1 7 { s with main := { s.main with a := s.read8 s.bc } }) ∧
    exec .ldAAtDe s = .next (s.after 1 1 7 { s with main := { s.main with a := s.read8 s.de } }) ∧
    exec (.ldAAtNn nn) s = .next (s.after 3 1 13 { s with main := { s.main with a := s.read8 nn } }) ∧
    exec (.ldRRIx x x2) s = .next (s.after 2 2 8 (s.setRegX .ix x (s.regX .ix x2))) ∧
    exec (.ldRRIy x x2) s = .next (s.after 2 2 8 (s.setRegX .iy x (s.regX .iy x2))) ∧
    exec (.ldIxHalfN h n) s = .next (s.after 3 2 11 (s.setHalf .ix h n)) ∧
    exec (.ldIyHalfN h n) s = .next (s.after 3 2 11 (s.setHalf .iy h n)) ∧
    s.regX .ix .xh = hi s.ix ∧ s.regX .ix .xl = lo s.ix ∧ s.regX .iy .xh = hi s.iy ∧ s.regX .iy .xl = lo s.iy ∧
    s.setRegX .ix .xh n = s.setHalf .ix .hi n ∧ s.setRegX .ix .xl n = s.setHalf .ix .lo n ∧
    s.setRegX .iy .xh n = s.setHalf .iy .hi n ∧ s.setRegX .iy .xl n = s.setHalf .iy .lo n ∧
    s.setHalf .ix .hi n = { s with ix := join n (lo s.ix) } ∧ s.setHalf .ix .lo n = { s with ix := join (hi s.ix) n } ∧
    s.setHalf .iy .hi n = { s with iy := join n (lo s.iy) } ∧ s.setHalf .iy .lo n = { s with iy := join (hi s.iy) n }

/-- 8-bit stores, with the refused control writes (40_load8 R153, R154, R156, R157, R165 to R167). -/
def Obligations.Store8 : Prop :=
  ∀ (s : State) (r : Reg8) (n d : Byte) (nn : Word),
    WritesOne (.ldAtHlR r) s s.hl (s.main.get r) (s.after 1 1 7 (s.wrote s.hl (s.main.get r))) ∧
    WritesOne (.ldAtHlN n) s s.hl n (s.after 2 1 10 (s.wrote s.hl n)) ∧
    WritesOne (.ldAtIxR d r) s (s.ix + sext d) (s.main.get r)
      (s.after 3 2 19 (s.wrote (s.ix + sext d) (s.main.get r))) ∧
    WritesOne (.ldAtIyR d r) s (s.iy + sext d) (s.main.get r)
      (s.after 3 2 19 (s.wrote (s.iy + sext d) (s.main.get r))) ∧
    WritesOne (.ldAtIxN d n) s (s.ix + sext d) n (s.after 4 2 19 (s.wrote (s.ix + sext d) n)) ∧
    WritesOne (.ldAtIyN d n) s (s.iy + sext d) n (s.after 4 2 19 (s.wrote (s.iy + sext d) n)) ∧
    WritesOne .ldAtBcA s s.bc s.main.a (s.after 1 1 7 (s.wrote s.bc s.main.a)) ∧
    WritesOne .ldAtDeA s s.de s.main.a (s.after 1 1 7 (s.wrote s.de s.main.a)) ∧
    WritesOne (.ldAtNnA nn) s nn s.main.a (s.after 3 1 13 (s.wrote nn s.main.a))

/-- LD A,I and LD A,R copy the register and IFF2; LD I,A and LD R,A; R is read and written after its two increments (40_load8 R161 to R164). -/
def Obligations.SpecialRegisterLoads : Prop :=
  ∀ s : State,
    (∃ f, exec .ldAI s = .next (s.after 2 2 9 { s with main := { s.main with a := s.i, f := f } }) ∧
      FlagsAre f (s.i.getLsbD 7) (s.i == 0) (s.i.getLsbD 5) false (s.i.getLsbD 3) s.ctl.iff2 false (s.main.f.getLsbD 0)) ∧
    (∃ a f, exec .ldAR s = .next (s.after 2 2 9 { s with main := { s.main with a := a, f := f } }) ∧
      a.toNat % 128 = (s.r.toNat + 2) % 128 ∧ a.getLsbD 7 = s.r.getLsbD 7 ∧
      FlagsAre f (a.getLsbD 7) (a == 0) (a.getLsbD 5) false (a.getLsbD 3) s.ctl.iff2 false (s.main.f.getLsbD 0)) ∧
    exec .ldIA s = .next (s.after 2 2 9 { s with i := s.main.a }) ∧
    exec .ldRA s = .next { s.after 2 2 9 s with r := s.main.a }

/-- 16-bit loads and stores; a stored word goes low byte first, and the second byte through the mapping the first leaves
(41_load16_exchange R180 to R189). -/
def Obligations.Load16 : Prop :=
  ∀ (s : State) (p : Pair) (nn : Word),
    exec (.ldDdNn p nn) s = .next (s.after 3 1 10 (s.setPair p nn)) ∧
    exec (.ldIxNn nn) s = .next (s.after 4 2 14 { s with ix := nn }) ∧
    exec (.ldIyNn nn) s = .next (s.after 4 2 14 { s with iy := nn }) ∧
    exec (.ldHlAtNn nn) s = .next (s.after 3 1 16 { s with main := { s.main with h := s.read8 (nn + 1), l := s.read8 nn } }) ∧
    exec (.ldIxAtNn nn) s = .next (s.after 4 2 20 { s with ix := join (s.read8 (nn + 1)) (s.read8 nn) }) ∧
    exec (.ldIyAtNn nn) s = .next (s.after 4 2 20 { s with iy := join (s.read8 (nn + 1)) (s.read8 nn) }) ∧
    exec (.ldDdAtNn p nn) s = .next (s.after 4 2 20 (s.setPair p (join (s.read8 (nn + 1)) (s.read8 nn)))) ∧
    exec .ldSpHl s = .next (s.after 1 1 6 { s with sp := s.hl }) ∧
    exec .ldSpIx s = .next (s.after 2 2 10 { s with sp := s.ix }) ∧
    exec .ldSpIy s = .next (s.after 2 2 10 { s with sp := s.iy }) ∧
    WritesTwo (.ldAtNnHl nn) s nn s.main.l (nn + 1) s.main.h (s.after 3 1 16 (s.wroteWord nn (join s.main.h s.main.l))) ∧
    WritesTwo (.ldAtNnIx nn) s nn (lo s.ix) (nn + 1) (hi s.ix) (s.after 4 2 20 (s.wroteWord nn s.ix)) ∧
    WritesTwo (.ldAtNnIy nn) s nn (lo s.iy) (nn + 1) (hi s.iy) (s.after 4 2 20 (s.wroteWord nn s.iy)) ∧
    WritesTwo (.ldAtNnDd nn p) s nn (lo (s.pair p)) (nn + 1) (hi (s.pair p)) (s.after 4 2 20 (s.wroteWord nn (s.pair p))) ∧
    s.pair .bc = join s.main.b s.main.c ∧ s.pair .de = join s.main.d s.main.e ∧ s.pair .hl = join s.main.h s.main.l ∧
    s.pair .sp = s.sp ∧
    s.setPair .bc nn = { s with main := { s.main with b := hi nn, c := lo nn } } ∧
    s.setPair .de nn = { s with main := { s.main with d := hi nn, e := lo nn } } ∧
    s.setPair .hl nn = { s with main := { s.main with h := hi nn, l := lo nn } } ∧
    s.setPair .sp nn = { s with sp := nn }

/-- PUSH writes the high byte at SP - 1, then the low byte at SP - 2; POP reads the low byte at SP and the high byte at SP + 1
(41_load16_exchange R190 to R193). -/
def Obligations.PushPop : Prop :=
  ∀ (s : State) (q : PairQ), let top := join (s.read8 (s.sp + 1)) (s.read8 s.sp)
    WritesTwo (.pushQq q) s (s.sp - 1) (hi (s.pairQ q)) (s.sp - 2) (lo (s.pairQ q)) (s.after 1 1 11 (s.pushed (s.pairQ q))) ∧
    WritesTwo .pushIx s (s.sp - 1) (hi s.ix) (s.sp - 2) (lo s.ix) (s.after 2 2 15 (s.pushed s.ix)) ∧
    WritesTwo .pushIy s (s.sp - 1) (hi s.iy) (s.sp - 2) (lo s.iy) (s.after 2 2 15 (s.pushed s.iy)) ∧
    exec (.popQq q) s = .next (s.after 1 1 10 { s.setPairQ q top with sp := s.sp + 2 }) ∧
    exec .popIx s = .next (s.after 2 2 14 { s with sp := s.sp + 2, ix := top }) ∧
    exec .popIy s = .next (s.after 2 2 14 { s with sp := s.sp + 2, iy := top }) ∧
    s.pairQ .bc = join s.main.b s.main.c ∧ s.pairQ .de = join s.main.d s.main.e ∧ s.pairQ .hl = join s.main.h s.main.l ∧
    s.pairQ .af = join s.main.a s.main.f ∧
    s.setPairQ .bc top = { s with main := { s.main with b := hi top, c := lo top } } ∧
    s.setPairQ .de top = { s with main := { s.main with d := hi top, e := lo top } } ∧
    s.setPairQ .hl top = { s with main := { s.main with h := hi top, l := lo top } } ∧
    s.setPairQ .af top = { s with main := { s.main with a := hi top, f := lo top } }

/-- The exchanges: EX DE,HL, EX AF,AF', EXX swap values and nothing else; EX (SP),HL and EX (SP),XY read the word before they write
(41_load16_exchange R194 to R198). -/
def Obligations.Exchanges : Prop :=
  ∀ s : State, let m := s.main; let n := s.alt; let top := join (s.read8 (s.sp + 1)) (s.read8 s.sp)
    exec .exDeHl s = .next (s.after 1 1 4 { s with main := { m with d := m.h, e := m.l, h := m.d, l := m.e } }) ∧
    exec .exAfAf s = .next (s.after 1 1 4 { s with
      main := { m with a := n.a, f := n.f }, alt := { n with a := m.a, f := m.f } }) ∧
    exec .exx s = .next (s.after 1 1 4 { s with
      main := { m with b := n.b, c := n.c, d := n.d, e := n.e, h := n.h, l := n.l }
      alt := { n with b := m.b, c := m.c, d := m.d, e := m.e, h := m.h, l := m.l } }) ∧
    WritesTwo .exAtSpHl s s.sp m.l (s.sp + 1) m.h
      (s.after 1 1 19 { s.wroteWord s.sp s.hl with main := { m with h := hi top, l := lo top } }) ∧
    WritesTwo .exAtSpIx s s.sp (lo s.ix) (s.sp + 1) (hi s.ix) (s.after 2 2 23 { s.wroteWord s.sp s.ix with ix := top }) ∧
    WritesTwo .exAtSpIy s s.sp (lo s.iy) (s.sp + 1) (hi s.iy) (s.after 2 2 23 { s.wroteWord s.sp s.iy with iy := top })

/-- LDI, LDD, LDIR and LDDR move one byte; the repeating forms go back to their own first byte while BC is not 0, with Y and X then free values
(42_block R210 to R214, R219). -/
def Obligations.BlockTransfer : Prop :=
  ∀ (s : State) (down rep : Bool),
    let i : Instr := if rep then (if down then .lddr else .ldir) else (if down then .ldd else .ldi)
    let step : Word := if down then 0xFFFF else 1
    let v := s.read8 s.hl
    let n := s.main.a + v
    let bc := s.bc - 1
    let again := rep && bc != 0
    ∃ f draws,
      WritesOne i s s.de v
        { s.after 2 2 (if again then 21 else 16)
            { s.wrote s.de v with
              main := { s.main with
                h := hi (s.hl + step), l := lo (s.hl + step), d := hi (s.de + step), e := lo (s.de + step)
                b := hi bc, c := lo bc, f := f }
              draws := draws } with
          pc := if again then s.pc else s.pc + 2 } ∧
      (again = false → draws = s.draws ∧
        FlagsAre f (s.main.f.getLsbD 7) (s.main.f.getLsbD 6) (n.getLsbD 1) false (n.getLsbD 3) (bc != 0) false
          (s.main.f.getLsbD 0)) ∧
      (again = true → FlagsAre f (s.main.f.getLsbD 7) (s.main.f.getLsbD 6) (f.getLsbD 5) false (f.getLsbD 3) true false
        (s.main.f.getLsbD 0))

/-- CPI, CPD, CPIR and CPDR compare one byte; the repeating forms go on while BC is not 0 and the byte does not match (42_block R214 to R219). -/
def Obligations.BlockSearch : Prop :=
  ∀ (s : State) (down rep : Bool),
    let i : Instr := if rep then (if down then .cpdr else .cpir) else (if down then .cpd else .cpi)
    let step : Word := if down then 0xFFFF else 1
    let a := s.main.a
    let v := s.read8 s.hl
    let r := a - v
    let borrow := decide (a.toNat % 16 < v.toNat % 16)
    let n := r - BitVec.ofNat 8 borrow.toNat
    let bc := s.bc - 1
    let again := rep && bc != 0 && r != 0
    ∃ f draws,
      exec i s = .next
        { s.after 2 2 (if again then 21 else 16)
            { s with
              main := { s.main with h := hi (s.hl + step), l := lo (s.hl + step), b := hi bc, c := lo bc, f := f }
              draws := draws } with
          pc := if again then s.pc else s.pc + 2 } ∧
      (again = false → draws = s.draws ∧
        FlagsAre f (r.getLsbD 7) (r == 0) (n.getLsbD 1) borrow (n.getLsbD 3) (bc != 0) true (s.main.f.getLsbD 0)) ∧
      (again = true → FlagsAre f (r.getLsbD 7) false (f.getLsbD 5) borrow (f.getLsbD 3) true true (s.main.f.getLsbD 0))

/-- INI, IND, INIR and INDR: one byte from port BC to (HL); OUTI, OUTD, OTIR and OTDR: one byte from (HL) to port BC with B already decremented; the
repeating forms go on while B is not 0, with Y, X, H and PV then free values (42_block R214, R219 to R227; 47_io R350, R351). -/
def Obligations.BlockIo : Prop :=
  ∀ (s : State) (down rep : Bool),
    let step : Word := if down then 0xFFFF else 1
    let hl := s.hl + step
    let b := s.main.b - 1
    let again := rep && b != 0
    let main (f : Byte) : Bank := { s.main with h := hi hl, l := lo hl, b := b, f := f }
    let flags (f : Byte) (v : Byte) (k : Nat) : Prop :=
      f.getLsbD 7 = b.getLsbD 7 ∧ f.getLsbD 6 = (b == 0) ∧ f.getLsbD 1 = v.getLsbD 7 ∧ f.getLsbD 0 = decide (k > 255) ∧
      (again = false → f.getLsbD 5 = b.getLsbD 5 ∧ f.getLsbD 3 = b.getLsbD 3 ∧ f.getLsbD 4 = decide (k > 255) ∧
        f.getLsbD 2 = evenOnes (BitVec.ofNat 8 (k % 8) ^^^ b))
    let iIn : Instr := if rep then (if down then .indr else .inir) else (if down then .ind else .ini)
    let iOut : Instr := if rep then (if down then .otdr else .otir) else (if down then .outd else .outi)
    let v := s.ioAnswer s.bc
    let w := s.read8 s.hl
    (∃ f draws,
      WritesOne iIn s s.hl v
        { s.after 2 2 (if again then 21 else 16)
            { s.wrote s.hl v with
              main := main f, draws := draws
              io := { answers := s.io.answers.drop 1, trace := s.io.trace ++ [.read s.bc v] } } with
          pc := if again then s.pc else s.pc + 2 } ∧
      flags f v (v.toNat + (s.main.c + lo step).toNat)) ∧
    (∃ f draws,
      exec iOut s = .next
        { s.after 2 2 (if again then 21 else 16)
            { s with main := main f, draws := draws, io := { s.io with trace := s.io.trace ++ [.write (join b s.main.c) w] } } with
          pc := if again then s.pc else s.pc + 2 } ∧
      flags f w (w.toNat + (lo hl).toNat))

/-- The eight accumulator operations in all their operand forms: the result as an exact sum or difference modulo 256, and all eight flags; CP writes F
only and takes Y and X from the operand (43_alu8 R240 to R248). -/
def Obligations.AccumulatorOperations : Prop :=
  ∀ (i : Instr) (s : State) (x : AluForm), aluForm s i = some x →
    let a := s.main.a
    let v := x.operand
    let c := if x.op = .adc ∨ x.op = .sbc then (s.main.f.getLsbD 0).toNat else 0
    ∃ res f,
      exec i s = .next (s.after x.len x.m1 x.t
        { s with main := { s.main with a := if x.op = .cp then a else res, f := f } }) ∧
      (x.op = .add ∨ x.op = .adc →
        res.toNat = (a.toNat + v.toNat + c) % 256 ∧
        FlagsAre f (res.getLsbD 7) (res == 0) (res.getLsbD 5) (decide (a.toNat % 16 + v.toNat % 16 + c > 15)) (res.getLsbD 3)
          (overflow8 (a.toInt + v.toInt + c)) false (decide (a.toNat + v.toNat + c > 255))) ∧
      (x.op = .sub ∨ x.op = .sbc ∨ x.op = .cp →
        (res.toNat : Int) = ((a.toNat : Int) - v.toNat - c) % 256 ∧
        FlagsAre f (res.getLsbD 7) (res == 0) (if x.op = .cp then v.getLsbD 5 else res.getLsbD 5)
          (decide (a.toNat % 16 < v.toNat % 16 + c)) (if x.op = .cp then v.getLsbD 3 else res.getLsbD 3)
          (overflow8 (a.toInt - v.toInt - c)) true (decide (a.toNat < v.toNat + c))) ∧
      (x.op = .and → res = a &&& v) ∧ (x.op = .xor → res = a ^^^ v) ∧ (x.op = .or → res = a ||| v) ∧
      (x.op = .and ∨ x.op = .xor ∨ x.op = .or →
        FlagsAre f (res.getLsbD 7) (res == 0) (res.getLsbD 5) (decide (x.op = .and)) (res.getLsbD 3) (evenOnes res) false false)

/-- INC and DEC of a register, a half of an index register and a byte of memory: C kept, PV at the signed limit (43_alu8 R249 to R256). -/
def Obligations.IncDec8 : Prop :=
  ∀ (s : State) (r : Reg8) (h : Half) (d : Byte), let c := s.main.f.getLsbD 0
    let inc (v f : Byte) : Prop :=
      FlagsAre f ((v + 1).getLsbD 7) (v + 1 == 0) ((v + 1).getLsbD 5) (v.toNat % 16 == 15) ((v + 1).getLsbD 3) (v == 0x7F) false c
    let dec (v f : Byte) : Prop :=
      FlagsAre f ((v - 1).getLsbD 7) (v - 1 == 0) ((v - 1).getLsbD 5) (v.toNat % 16 == 0) ((v - 1).getLsbD 3) (v == 0x80) true c
    (∃ f, inc (s.main.get r) f ∧
      exec (.incR r) s = .next (s.after 1 1 4 { s with main := { s.main.set r (s.main.get r + 1) with f := f } })) ∧
    (∃ f, dec (s.main.get r) f ∧
      exec (.decR r) s = .next (s.after 1 1 4 { s with main := { s.main.set r (s.main.get r - 1) with f := f } })) ∧
    (∃ f, inc (s.half .ix h) f ∧
      exec (.incIxHalf h) s = .next (s.after 2 2 8 ((s.setHalf .ix h (s.half .ix h + 1)).setF f))) ∧
    (∃ f, dec (s.half .ix h) f ∧
      exec (.decIxHalf h) s = .next (s.after 2 2 8 ((s.setHalf .ix h (s.half .ix h - 1)).setF f))) ∧
    (∃ f, inc (s.half .iy h) f ∧
      exec (.incIyHalf h) s = .next (s.after 2 2 8 ((s.setHalf .iy h (s.half .iy h + 1)).setF f))) ∧
    (∃ f, dec (s.half .iy h) f ∧
      exec (.decIyHalf h) s = .next (s.after 2 2 8 ((s.setHalf .iy h (s.half .iy h - 1)).setF f))) ∧
    (∀ i a len m1 t, (i = .incAtHl ∧ a = s.hl ∧ len = 1 ∧ m1 = 1 ∧ t = 11) ∨
        (i = .incAtIx d ∧ a = s.ix + sext d ∧ len = 3 ∧ m1 = 2 ∧ t = 23) ∨
        (i = .incAtIy d ∧ a = s.iy + sext d ∧ len = 3 ∧ m1 = 2 ∧ t = 23) →
      ∃ f, inc (s.read8 a) f ∧
        WritesOne i s a (s.read8 a + 1) (s.after len m1 t ((s.wrote a (s.read8 a + 1)).setF f))) ∧
    (∀ i a len m1 t, (i = .decAtHl ∧ a = s.hl ∧ len = 1 ∧ m1 = 1 ∧ t = 11) ∨
        (i = .decAtIx d ∧ a = s.ix + sext d ∧ len = 3 ∧ m1 = 2 ∧ t = 23) ∨
        (i = .decAtIy d ∧ a = s.iy + sext d ∧ len = 3 ∧ m1 = 2 ∧ t = 23) →
      ∃ f, dec (s.read8 a) f ∧
        WritesOne i s a (s.read8 a - 1) (s.after len m1 t ((s.wrote a (s.read8 a - 1)).setF f)))

/-- DAA, CPL, NEG, SCF and CCF (43_alu8 R257 to R259, R262, R263); that SCF and CCF take Y and X from A is the spec's own decision (log entry 13). -/
def Obligations.AccumulatorAdjustments : Prop :=
  ∀ (s : State) (y : BitVec 3), let a := s.main.a; let f0 := s.main.f
    let sf := f0.getLsbD 7; let zf := f0.getLsbD 6; let hf := f0.getLsbD 4; let pf := f0.getLsbD 2
    let nf := f0.getLsbD 1; let cf := f0.getLsbD 0
    (let low := hf || decide (a.toNat % 16 > 9)
     let high := cf || decide (a.toNat > 0x99)
     let corr := (if low then 6 else 0) + (if high then 0x60 else 0)
     ∃ res f, exec .daa s = .next (s.after 1 1 4 { s with main := { s.main with a := res, f := f } }) ∧
      (res.toNat : Int) = (if nf then (a.toNat : Int) - corr else (a.toNat : Int) + corr) % 256 ∧
      FlagsAre f (res.getLsbD 7) (res == 0) (res.getLsbD 5)
        (if nf then hf && decide (a.toNat % 16 < 6) else decide (a.toNat % 16 > 9))
        (res.getLsbD 3) (evenOnes res) nf high) ∧
    (∃ f, exec .cpl s = .next (s.after 1 1 4 { s with main := { s.main with a := a ^^^ 0xFF, f := f } }) ∧
      FlagsAre f sf zf (!a.getLsbD 5) true (!a.getLsbD 3) pf true cf) ∧
    (∃ res f, exec (.neg y) s = .next (s.after 2 2 8 { s with main := { s.main with a := res, f := f } }) ∧
      res = 0 - a ∧
      FlagsAre f (res.getLsbD 7) (res == 0) (res.getLsbD 5) (a.toNat % 16 != 0) (res.getLsbD 3) (a == 0x80) true (a != 0)) ∧
    (∃ f, exec .scf s = .next (s.after 1 1 4 { s with main := { s.main with f := f } }) ∧
      FlagsAre f sf zf (a.getLsbD 5) false (a.getLsbD 3) pf false true) ∧
    (∃ f, exec .ccf s = .next (s.after 1 1 4 { s with main := { s.main with f := f } }) ∧
      FlagsAre f sf zf (a.getLsbD 5) cf (a.getLsbD 3) pf false (!cf))

/-- 16-bit arithmetic: ADD HL,ss and ADD XY,pp keep S, Z and PV; ADC and SBC HL,ss write all eight flags; INC and DEC of a pair write none
(44_alu16 R270 to R279). -/
def Obligations.Arithmetic16 : Prop :=
  ∀ (s : State) (p : Pair) (q : PairX), let f0 := s.main.f; let c := (f0.getLsbD 0).toNat
    let added (a v res : Word) (f : Byte) : Prop :=
      res.toNat = (a.toNat + v.toNat) % 65536 ∧
      FlagsAre f (f0.getLsbD 7) (f0.getLsbD 6) (res.getLsbD 13) (decide (a.toNat % 4096 + v.toNat % 4096 > 0xFFF))
        (res.getLsbD 11) (f0.getLsbD 2) false (decide (a.toNat + v.toNat > 0xFFFF))
    (∃ res f, added s.hl (s.pair p) res f ∧
      exec (.addHlSs p) s = .next (s.after 1 1 11 { s with main := { s.main with h := hi res, l := lo res, f := f } })) ∧
    (∃ res f, added s.ix (s.pairX .ix q) res f ∧
      exec (.addIxPp q) s = .next (s.after 2 2 15 { s with ix := res, main := { s.main with f := f } })) ∧
    (∃ res f, added s.iy (s.pairX .iy q) res f ∧
      exec (.addIyPp q) s = .next (s.after 2 2 15 { s with iy := res, main := { s.main with f := f } })) ∧
    (let a := s.hl; let v := s.pair p
     ∃ res f, exec (.adcHlSs p) s = .next (s.after 2 2 15 { s with main := { s.main with h := hi res, l := lo res, f := f } }) ∧
      res.toNat = (a.toNat + v.toNat + c) % 65536 ∧
      FlagsAre f (res.getLsbD 15) (res == 0) (res.getLsbD 13) (decide (a.toNat % 4096 + v.toNat % 4096 + c > 0xFFF))
        (res.getLsbD 11) (overflow16 (a.toInt + v.toInt + c)) false (decide (a.toNat + v.toNat + c > 0xFFFF))) ∧
    (let a := s.hl; let v := s.pair p
     ∃ res f, exec (.sbcHlSs p) s = .next (s.after 2 2 15 { s with main := { s.main with h := hi res, l := lo res, f := f } }) ∧
      (res.toNat : Int) = ((a.toNat : Int) - v.toNat - c) % 65536 ∧
      FlagsAre f (res.getLsbD 15) (res == 0) (res.getLsbD 13) (decide (a.toNat % 4096 < v.toNat % 4096 + c))
        (res.getLsbD 11) (overflow16 (a.toInt - v.toInt - c)) true (decide (a.toNat < v.toNat + c))) ∧
    exec (.incSs p) s = .next (s.after 1 1 6 (s.setPair p (s.pair p + 1))) ∧
    exec (.decSs p) s = .next (s.after 1 1 6 (s.setPair p (s.pair p - 1))) ∧
    exec .incIx s = .next (s.after 2 2 10 { s with ix := s.ix + 1 }) ∧
    exec .incIy s = .next (s.after 2 2 10 { s with iy := s.iy + 1 }) ∧
    exec .decIx s = .next (s.after 2 2 10 { s with ix := s.ix - 1 }) ∧
    exec .decIy s = .next (s.after 2 2 10 { s with iy := s.iy - 1 })

/-- The rotates and shifts of a register: RLCA, RRCA, RLA and RRA keep S, Z and PV; those of the CB table write all eight flags
(45_rotate_bit R290 to R302). -/
def Obligations.RotateRegisters : Prop :=
  ∀ s : State,
    (∀ i op, (i, op) ∈ [(Instr.rlca, RotOp.rlc), (.rrca, .rrc), (.rla, .rl), (.rra, .rr)] →
      ∃ res f cout, Rotated op s.main.a (s.main.f.getLsbD 0) res cout ∧
        exec i s = .next (s.after 1 1 4 { s with main := { s.main with a := res, f := f } }) ∧
        FlagsAre f (s.main.f.getLsbD 7) (s.main.f.getLsbD 6) (res.getLsbD 5) false (res.getLsbD 3) (s.main.f.getLsbD 2) false cout) ∧
    (∀ i op r, rotRForm i = some (op, r) →
      ∃ res f cout, Rotated op (s.main.get r) (s.main.f.getLsbD 0) res cout ∧
        exec i s = .next (s.after 2 2 8 { s with main := { s.main.set r res with f := f } }) ∧
        FlagsAre f (res.getLsbD 7) (res == 0) (res.getLsbD 5) false (res.getLsbD 3) (evenOnes res) false cout)

/-- The rotates and shifts of memory, with the register copy of the undocumented forms, made whether or not a ROM location drops the write; RLD and RRD
(45_rotate_bit R294 to R302, R308, R309). -/
def Obligations.RotateMemory : Prop :=
  ∀ s : State,
    (∀ i x, rotMemForm s i = some x →
      ∃ res f cout, Rotated x.op (s.read8 x.addr) (s.main.f.getLsbD 0) res cout ∧
        WritesOne i s x.addr res (s.after x.len 2 x.t (((s.wrote x.addr res).copied x.copy res).setF f)) ∧
        FlagsAre f (res.getLsbD 7) (res == 0) (res.getLsbD 5) false (res.getLsbD 3) (evenOnes res) false cout) ∧
    (∀ i left, (i, left) ∈ [(Instr.rld, true), (.rrd, false)] →
      let a := s.main.a.toNat; let m := (s.read8 s.hl).toNat
      ∃ w a' f,
        (w.toNat = if left then m % 16 * 16 + a % 16 else a % 16 * 16 + m / 16) ∧
        (a'.toNat = if left then a / 16 * 16 + m / 16 else a / 16 * 16 + m % 16) ∧
        WritesOne i s s.hl w (s.after 2 2 18 ((s.wrote s.hl w).setMain { s.main with a := a', f := f })) ∧
        FlagsAre f (a'.getLsbD 7) (a' == 0) (a'.getLsbD 5) false (a'.getLsbD 3) (evenOnes a') false (s.main.f.getLsbD 0))

/-- BIT, SET and RES. BIT b,(HL) leaves Y and X a free value; SET and RES write no flag and always write back
(45_rotate_bit R303 to R307). -/
def Obligations.BitOperations : Prop :=
  ∀ (s : State) (b z : BitVec 3) (r : Reg8) (d : Byte),
    let bitFlags (v f : Byte) (y x : Bool) : Prop :=
      FlagsAre f (b == 7 && v.getLsbD b.toNat) (!v.getLsbD b.toNat) y true x (!v.getLsbD b.toNat) false (s.main.f.getLsbD 0)
    let put (on : Bool) (b : BitVec 3) (v res : Byte) : Prop :=
      ∀ k < 8, res.getLsbD k = if k = b.toNat then on else v.getLsbD k
    (∃ f, bitFlags (s.main.get r) f ((s.main.get r).getLsbD 5) ((s.main.get r).getLsbD 3) ∧
      exec (.bitR b r) s = .next (s.after 2 2 8 { s with main := { s.main with f := f } })) ∧
    (∃ f, bitFlags (s.read8 s.hl) f (f.getLsbD 5) (f.getLsbD 3) ∧
      exec (.bitAtHl b) s = .next (s.after 2 2 12 { s with main := { s.main with f := f }, draws := s.draws + 1 })) ∧
    (∃ f, bitFlags (s.read8 (s.ix + sext d)) f ((s.ix + sext d).getLsbD 13) ((s.ix + sext d).getLsbD 11) ∧
      exec (.bitAtIx b d z) s = .next (s.after 4 2 20 { s with main := { s.main with f := f } })) ∧
    (∃ f, bitFlags (s.read8 (s.iy + sext d)) f ((s.iy + sext d).getLsbD 13) ((s.iy + sext d).getLsbD 11) ∧
      exec (.bitAtIy b d z) s = .next (s.after 4 2 20 { s with main := { s.main with f := f } })) ∧
    (∃ res, put true b (s.main.get r) res ∧ exec (.setR b r) s = .next (s.after 2 2 8 { s with main := s.main.set r res })) ∧
    (∃ res, put false b (s.main.get r) res ∧ exec (.resR b r) s = .next (s.after 2 2 8 { s with main := s.main.set r res })) ∧
    (∀ i x, bitMemForm s i = some x →
      ∃ res, put x.on x.bit (s.read8 x.addr) res ∧
        WritesOne i s x.addr res (s.after x.len 2 x.t ((s.wrote x.addr res).copied x.copy res)))

/-- Jumps: absolute, relative to the next instruction, conditional, register-indirect, and DJNZ, which writes no flag
(46_control_transfer R320 to R326). -/
def Obligations.Jumps : Prop :=
  ∀ (s : State) (cc : Cond) (nn : Word) (e : Byte),
    exec (.jpNn nn) s = .next ((s.after 3 1 10 s).goto nn) ∧
    exec (.jpCcNn cc nn) s = .next (if s.cond cc then (s.after 3 1 10 s).goto nn else s.after 3 1 10 s) ∧
    exec (.jr e) s = .next ((s.after 2 1 12 s).goto (s.pc + 2 + sext e)) ∧
    exec (.jrCc cc e) s = .next (if s.cond cc then (s.after 2 1 12 s).goto (s.pc + 2 + sext e) else s.after 2 1 7 s) ∧
    (s.main.b ≠ 1 → exec (.djnz e) s =
      .next ((s.after 2 1 13 { s with main := { s.main with b := s.main.b - 1 } }).goto (s.pc + 2 + sext e))) ∧
    (s.main.b = 1 → exec (.djnz e) s = .next (s.after 2 1 8 { s with main := { s.main with b := 0 } })) ∧
    exec .jpHl s = .next ((s.after 1 1 4 s).goto s.hl) ∧
    exec .jpIx s = .next ((s.after 2 2 8 s).goto s.ix) ∧
    exec .jpIy s = .next ((s.after 2 2 8 s).goto s.iy) ∧
    s.cond .nz = !s.main.f.getLsbD 6 ∧ s.cond .z = s.main.f.getLsbD 6 ∧ s.cond .nc = !s.main.f.getLsbD 0 ∧
    s.cond .c = s.main.f.getLsbD 0 ∧ s.cond .po = !s.main.f.getLsbD 2 ∧ s.cond .pe = s.main.f.getLsbD 2 ∧
    s.cond .p = !s.main.f.getLsbD 7 ∧ s.cond .m = s.main.f.getLsbD 7

/-- Calls, restarts and returns: the return address is that of the next instruction, a call not taken pushes nothing, a return not taken pops nothing; RETI
and RETN also copy IFF2 into IFF1 and set no deferral (46_control_transfer R327 to R333). -/
def Obligations.CallsAndReturns : Prop :=
  ∀ (s : State) (cc : Cond) (nn : Word) (p y : BitVec 3), let top := join (s.read8 (s.sp + 1)) (s.read8 s.sp)
    WritesTwo (.callNn nn) s (s.sp - 1) (hi (s.pc + 3)) (s.sp - 2) (lo (s.pc + 3))
      ((s.after 3 1 17 (s.pushed (s.pc + 3))).goto nn) ∧
    (s.cond cc = true → WritesTwo (.callCcNn cc nn) s (s.sp - 1) (hi (s.pc + 3)) (s.sp - 2) (lo (s.pc + 3))
      ((s.after 3 1 17 (s.pushed (s.pc + 3))).goto nn)) ∧
    (s.cond cc = false → exec (.callCcNn cc nn) s = .next (s.after 3 1 10 s)) ∧
    WritesTwo (.rst p) s (s.sp - 1) (hi (s.pc + 1)) (s.sp - 2) (lo (s.pc + 1))
      ((s.after 1 1 11 (s.pushed (s.pc + 1))).goto (BitVec.ofNat 16 (8 * p.toNat))) ∧
    exec .ret s = .next ((s.after 1 1 10 { s with sp := s.sp + 2 }).goto top) ∧
    (s.cond cc = true → exec (.retCc cc) s = .next ((s.after 1 1 11 { s with sp := s.sp + 2 }).goto top)) ∧
    (s.cond cc = false → exec (.retCc cc) s = .next (s.after 1 1 5 s)) ∧
    exec .reti s = .next
      ((s.after 2 2 14 { s with sp := s.sp + 2, ctl := { s.ctl with iff1 := s.ctl.iff2 } }).goto top) ∧
    exec (.retn y) s = .next
      ((s.after 2 2 14 { s with sp := s.sp + 2, ctl := { s.ctl with iff1 := s.ctl.iff2 } }).goto top)

/-- Input and output: the port is A ++ n or BC, a read uses up the host's next answer, a write is handed to the host; IN A,(n) writes no flag, the (C) forms
keep C (47_io R350 to R357). -/
def Obligations.InputOutput : Prop :=
  ∀ (s : State) (r : Reg8) (n : Byte), let an := join s.main.a n
    let afterRead (port : Word) (m : Bank) : State :=
      { s with main := m, draws := s.draws + 1,
               io := { answers := s.io.answers.drop 1, trace := s.io.trace ++ [.read port (s.ioAnswer port)] } }
    let afterWrite (port : Word) (v : Byte) : State := { s with io := { s.io with trace := s.io.trace ++ [.write port v] } }
    let flags (v f : Byte) : Prop :=
      FlagsAre f (v.getLsbD 7) (v == 0) (v.getLsbD 5) false (v.getLsbD 3) (evenOnes v) false (s.main.f.getLsbD 0)
    (∀ port v vs, s.io.answers = v :: vs → s.ioAnswer port = v) ∧
    exec (.inAN n) s = .next (s.after 2 1 11 (afterRead an { s.main with a := s.ioAnswer an })) ∧
    (∃ f, flags (s.ioAnswer s.bc) f ∧
      exec (.inR r) s = .next (s.after 2 2 12 (afterRead s.bc { s.main.set r (s.ioAnswer s.bc) with f := f }))) ∧
    (∃ f, flags (s.ioAnswer s.bc) f ∧
      exec .inFlags s = .next (s.after 2 2 12 (afterRead s.bc { s.main with f := f }))) ∧
    exec (.outNA n) s = .next (s.after 2 1 11 (afterWrite an s.main.a)) ∧
    exec (.outR r) s = .next (s.after 2 2 12 (afterWrite s.bc (s.main.get r))) ∧
    exec .outZero s = .next (s.after 2 2 12 (afterWrite s.bc 0x00))

/-- NOP, HALT, DI, EI and the IM instructions with their duplicates (48_cpu_control R370 to R376). -/
def Obligations.CpuControl : Prop :=
  ∀ (s : State) (y : BitVec 3),
    exec .nop s = .next (s.after 1 1 4 s) ∧
    exec .halt s = .next (s.after 1 1 4 { s with ctl := { s.ctl with halted := true } }) ∧
    exec .di s = .next (s.after 1 1 4 { s with ctl := { s.ctl with iff1 := false, iff2 := false } }) ∧
    exec .ei s = .next (s.after 1 1 4 { s with ctl := { s.ctl with iff1 := true, iff2 := true, eiDefer := true } }) ∧
    exec (.im0 y) s = .next (s.after 2 2 8 { s with ctl := { s.ctl with im := .mode0 } }) ∧
    exec (.im1 y) s = .next (s.after 2 2 8 { s with ctl := { s.ctl with im := .mode1 } }) ∧
    exec (.im2 y) s = .next (s.after 2 2 8 { s with ctl := { s.ctl with im := .mode2 } })

/-- The no-effect forms: an undefined ED opcode and a lone prefix change PC, R and CYCLES, the lone prefix PREFIX_DEFER too, and emit their message when
`log_undefined` is on (48_cpu_control R377, R378). -/
def Obligations.NoEffectForms : Prop :=
  ∀ (s : State) (op : BitVec 6) (y0 : Bool),
    let logged (bytes : List Byte) (t : State) : State :=
      if s.params.logUndefined then t.emit (.undefinedOpcode s.pc bytes) else t
    exec (.nopEd0 op) s = .next (logged [0xED, BitVec.ofNat 8 op.toNat] (s.after 2 2 8 s)) ∧
    exec (.nopEd2 op) s = .next (logged [0xED, BitVec.ofNat 8 (0x80 + op.toNat)] (s.after 2 2 8 s)) ∧
    exec (.nopEd3 op) s = .next (logged [0xED, BitVec.ofNat 8 (0xC0 + op.toNat)] (s.after 2 2 8 s)) ∧
    exec (.nopEd7 y0) s = .next (logged [0xED, if y0 then 0x7F else 0x77] (s.after 2 2 8 s)) ∧
    exec .loneDd s = .next (logged [0xDD] (s.after 1 1 4 { s with ctl := { s.ctl with prefixDefer := true } })) ∧
    exec .loneFd s = .next (logged [0xFD] (s.after 1 1 4 { s with ctl := { s.ctl with prefixDefer := true } }))

/-- An ignored prefix runs the base instruction from the next byte on, with one M1 cycle and 4 T-states more and its message, and is refused where the base
instruction is (48_cpu_control R379). The prefix rows of the opcode table run the row that the bytes behind them select (30_encoding R119 to
R121, R127; log entry 15). On the kinds without control registers all of them answer a next state. -/
def Obligations.Prefixes : Prop :=
  ∀ (s : State) (base : Instr) (d op b1 b2 b3 : Byte),
    (base.ignoresIndex = true → base.rowWellFormed = true →
      ∀ (pfx : Byte) (i : Instr), (pfx = 0xDD ∧ i = .ignoredDd base) ∨ (pfx = 0xFD ∧ i = .ignoredFd base) →
      (∀ v, exec base { s with pc := s.pc + 1, r := bumpR 1 s.r } = .next v →
        exec i s = .next
          (if s.params.logUndefined then
            ({ v with cycles := v.cycles + 4 } : State).emit (.undefinedOpcode s.pc [pfx, base.opcode])
          else { v with cycles := v.cycles + 4 })) ∧
      (∀ e, exec base { s with pc := s.pc + 1, r := bumpR 1 s.r } = .refused e → exec i s = .refused e) ∧
      (s.linear = true ∨ storeAddrs s base = [] →
        ∃ v t, exec base { s with pc := s.pc + 1, r := bumpR 1 s.r } = .next v ∧ exec i s = .next t)) ∧
    (∀ i j, (i, j) ∈ [(Instr.prefixCb op, decode4 0xCB op b2 b3), (.prefixEd b1 b2 b3, decode4 0xED b1 b2 b3),
        (.prefixDd b1 b2 b3, decode4 0xDD b1 b2 b3), (.prefixFd b1 b2 b3, decode4 0xFD b1 b2 b3),
        (.prefixDdCb d op, decode4 0xDD 0xCB d op), (.prefixFdCb d op, decode4 0xFD 0xCB d op)] →
      exec i s = exec j s ∧ (s.linear = true ∨ storeAddrs s j.core = [] → ∃ t, exec i s = .next t))
end

