-- ==== Sys2Proof/Laws/Memory.lean ====
section
/-! SUPPORT. The laws of a byte memory: read after write, and the canonical form kept by every operation. -/

namespace Sys2Proof.Machine

/-! Reading -/

theorem Memory.read_erase_same (m : Memory) (a : Nat) : Memory.read (Memory.erase m a) a = 0 := by
  induction m with
  | nil => rfl
  | cons cell m ih =>
    obtain ⟨k, v⟩ := cell
    by_cases h : k = a
    · subst h; simpa [Memory.erase] using ih
    · have h' : a ≠ k := fun e => h e.symm
      simpa [Memory.erase, h, Memory.read, h'] using ih

theorem Memory.read_erase_other (m : Memory) (a b : Nat) (h : b ≠ a) :
    Memory.read (Memory.erase m a) b = Memory.read m b := by
  induction m with
  | nil => rfl
  | cons cell m ih =>
    obtain ⟨k, v⟩ := cell
    by_cases hk : k = a
    · subst hk; simpa [Memory.erase, Memory.read, h] using ih
    · by_cases hb : b = k
      · simp [Memory.erase, hk, Memory.read, hb]
      · simpa [Memory.erase, hk, Memory.read, hb] using ih

theorem Memory.read_insert_same (m : Memory) (a : Nat) (v : Byte) : Memory.read (Memory.insert m a v) a = v := by
  induction m with
  | nil => simp [Memory.insert, Memory.read]
  | cons cell m ih =>
    obtain ⟨k, w⟩ := cell
    by_cases h1 : a < k
    · simp [Memory.insert, h1, Memory.read]
    · by_cases h2 : a = k
      · simp [Memory.insert, h2, Memory.read]
      · simpa [Memory.insert, h1, h2, Memory.read] using ih

theorem Memory.read_insert_other (m : Memory) (a b : Nat) (v : Byte) (h : b ≠ a) :
    Memory.read (Memory.insert m a v) b = Memory.read m b := by
  induction m with
  | nil => simp [Memory.insert, Memory.read, h]
  | cons cell m ih =>
    obtain ⟨k, w⟩ := cell
    by_cases h1 : a < k
    · simp [Memory.insert, h1, Memory.read, h]
    · by_cases h2 : a = k
      · subst h2; simp [Memory.insert, Memory.read, h]
      · by_cases hb : b = k
        · simp [Memory.insert, h1, h2, Memory.read, hb]
        · simpa [Memory.insert, h1, h2, Memory.read, hb] using ih

/-- A read after a write to the same offset gives the byte written. -/
theorem Memory.read_write_same (m : Memory) (a : Nat) (v : Byte) : Memory.read (Memory.write m a v) a = v := by
  unfold Memory.write
  split
  · next h => rw [Memory.read_erase_same, h]
  · exact Memory.read_insert_same m a v

/-- A write leaves every other offset alone. -/
theorem Memory.read_write_other (m : Memory) (a b : Nat) (v : Byte) (h : b ≠ a) :
    Memory.read (Memory.write m a v) b = Memory.read m b := by
  unfold Memory.write
  split
  · exact Memory.read_erase_other m a b h
  · exact Memory.read_insert_other m a b v h

/-! The canonical form -/

theorem Memory.wfFrom_mono {m : Memory} {j k : Nat} (h : Memory.wfFrom k m = true) (hjk : j ≤ k) :
    Memory.wfFrom j m = true := by
  cases m with
  | nil => rfl
  | cons cell m =>
    obtain ⟨a, v⟩ := cell
    simp only [Memory.wfFrom, Bool.and_eq_true, decide_eq_true_eq] at h ⊢
    exact ⟨⟨Nat.le_trans hjk h.1.1, h.1.2⟩, h.2⟩

theorem Memory.wfFrom_erase {m : Memory} {k : Nat} (a : Nat) (h : Memory.wfFrom k m = true) :
    Memory.wfFrom k (Memory.erase m a) = true := by
  induction m generalizing k with
  | nil => rfl
  | cons cell m ih =>
    obtain ⟨b, v⟩ := cell
    simp only [Memory.wfFrom, Bool.and_eq_true, decide_eq_true_eq] at h
    by_cases hb : b = a
    · have e : Memory.erase ((b, v) :: m) a = Memory.erase m a := by simp [Memory.erase, hb]
      rw [e]
      exact ih (Memory.wfFrom_mono h.2 (Nat.le_succ_of_le h.1.1))
    · have e : Memory.erase ((b, v) :: m) a = (b, v) :: Memory.erase m a := by simp [Memory.erase, hb]
      rw [e]
      simp only [Memory.wfFrom, Bool.and_eq_true, decide_eq_true_eq]
      exact ⟨h.1, ih h.2⟩

theorem Memory.wfFrom_insert {m : Memory} {k a : Nat} {v : Byte} (h : Memory.wfFrom k m = true) (hk : k ≤ a)
    (hv : (v != 0) = true) : Memory.wfFrom k (Memory.insert m a v) = true := by
  induction m generalizing k with
  | nil => simpa [Memory.insert, Memory.wfFrom, hk] using hv
  | cons cell m ih =>
    obtain ⟨b, w⟩ := cell
    simp only [Memory.wfFrom, Bool.and_eq_true, decide_eq_true_eq] at h
    unfold Memory.insert
    split
    · next h1 =>
      simp only [Memory.wfFrom, Bool.and_eq_true, decide_eq_true_eq]
      exact ⟨⟨hk, hv⟩, ⟨h1, h.1.2⟩, h.2⟩
    · split
      · next h1 h2 =>
        subst h2
        simp only [Memory.wfFrom, Bool.and_eq_true, decide_eq_true_eq]
        exact ⟨⟨hk, hv⟩, h.2⟩
      · next h1 h2 =>
        simp only [Memory.wfFrom, Bool.and_eq_true, decide_eq_true_eq]
        exact ⟨h.1, ih h.2 (by omega)⟩

/-- A write keeps the canonical form. -/
theorem Memory.wf_write {m : Memory} (a : Nat) (v : Byte) (h : m.wf = true) : (Memory.write m a v).wf = true := by
  unfold Memory.write
  split
  · exact Memory.wfFrom_erase a h
  · next hv => exact Memory.wfFrom_insert h (Nat.zero_le a) (by simpa using hv)

theorem Memory.below_erase {m : Memory} {n : Nat} (a : Nat) (h : m.below n = true) :
    (Memory.erase m a).below n = true := by
  simp only [Memory.below, Memory.erase, List.all_eq_true, List.mem_filter] at h ⊢
  exact fun cell hc => h cell hc.1

theorem Memory.below_insert {m : Memory} {n a : Nat} (v : Byte) (h : m.below n = true) (ha : a < n) :
    (Memory.insert m a v).below n = true := by
  induction m with
  | nil => simp [Memory.insert, Memory.below, ha]
  | cons cell m ih =>
    obtain ⟨b, w⟩ := cell
    simp only [Memory.below, List.all_cons, Bool.and_eq_true, decide_eq_true_eq] at h ih
    unfold Memory.insert
    split
    · simp only [Memory.below, List.all_cons, Bool.and_eq_true, decide_eq_true_eq]
      exact ⟨ha, h⟩
    · split
      · simp only [Memory.below, List.all_cons, Bool.and_eq_true, decide_eq_true_eq]
        exact ⟨ha, h.2⟩
      · simp only [Memory.below, List.all_cons, Bool.and_eq_true, decide_eq_true_eq]
        exact ⟨h.1, ih h.2⟩

/-- A write below n keeps every listed offset below n. -/
theorem Memory.below_write {m : Memory} {n a : Nat} (v : Byte) (h : m.below n = true) (ha : a < n) :
    (Memory.write m a v).below n = true := by
  unfold Memory.write
  split
  · exact Memory.below_erase a h
  · exact Memory.below_insert v h ha

/-! A memory from bytes -/

theorem Memory.wfFrom_ofBytes (vs : List Byte) (k : Nat) : Memory.wfFrom k (Memory.ofBytes k vs) = true := by
  induction vs generalizing k with
  | nil => rfl
  | cons v vs ih =>
    unfold Memory.ofBytes
    split
    · exact Memory.wfFrom_mono (ih (k + 1)) (Nat.le_succ k)
    · next h =>
      simp only [Memory.wfFrom, Bool.and_eq_true, decide_eq_true_eq]
      exact ⟨⟨Nat.le_refl k, by simpa using h⟩, ih (k + 1)⟩

theorem Memory.below_ofBytes (vs : List Byte) (k n : Nat) (h : k + vs.length ≤ n) :
    (Memory.ofBytes k vs).below n = true := by
  induction vs generalizing k with
  | nil => rfl
  | cons v vs ih =>
    simp only [List.length_cons] at h
    unfold Memory.ofBytes
    split
    · exact ih (k + 1) (by omega)
    · have := ih (k + 1) (by omega)
      simp only [Memory.below, List.all_cons, Bool.and_eq_true, decide_eq_true_eq] at this ⊢
      exact ⟨by omega, this⟩

/-- Below the first offset of its bytes a memory reads 0. -/
theorem Memory.read_ofBytes_below (vs : List Byte) (k a : Nat) (h : a < k) : Memory.read (Memory.ofBytes k vs) a = 0 := by
  induction vs generalizing k with
  | nil => rfl
  | cons v vs ih =>
    unfold Memory.ofBytes
    split
    · exact ih (k + 1) (by omega)
    · have : a ≠ k := by omega
      simpa [Memory.read, this] using ih (k + 1) (by omega)

/-- A memory from bytes reads them back. -/
theorem Memory.read_ofBytes (vs : List Byte) (k j : Nat) :
    Memory.read (Memory.ofBytes k vs) (k + j) = vs.getD j 0 := by
  induction vs generalizing k j with
  | nil => rfl
  | cons v vs ih =>
    unfold Memory.ofBytes
    cases j with
    | zero =>
      split
      · next h => simp [h, Memory.read_ofBytes_below vs (k + 1) k (Nat.lt_succ_self k)]
      · simp [Memory.read]
    | succ j =>
      have e : k + (j + 1) = k + 1 + j := by omega
      split
      · rw [e, ih]; simp
      · have : k + 1 + j ≠ k := by omega
        rw [e]
        simp only [Memory.read, this, if_false, ih]
        simp

/-- The memories of the reset state are in the canonical form. -/
theorem Store.reset_wf : Store.reset.wf = true := by decide

end Sys2Proof.Machine
end

