-- ==== Sys2Proof/Laws/State.lean ====
section
/-! SUPPORT. One lemma for each field and each writer of a part of the state, and for the operations that advance it. -/

namespace Sys2Proof.Machine

/-! setMain -/

@[simp] theorem State.main_setMain (s : State) (v : Bank) : (s.setMain v).main = v := rfl

@[simp] theorem State.alt_setMain (s : State) (v : Bank) : (s.setMain v).alt = s.alt := rfl

@[simp] theorem State.ix_setMain (s : State) (v : Bank) : (s.setMain v).ix = s.ix := rfl

@[simp] theorem State.iy_setMain (s : State) (v : Bank) : (s.setMain v).iy = s.iy := rfl

@[simp] theorem State.sp_setMain (s : State) (v : Bank) : (s.setMain v).sp = s.sp := rfl

@[simp] theorem State.pc_setMain (s : State) (v : Bank) : (s.setMain v).pc = s.pc := rfl

@[simp] theorem State.i_setMain (s : State) (v : Bank) : (s.setMain v).i = s.i := rfl

@[simp] theorem State.r_setMain (s : State) (v : Bank) : (s.setMain v).r = s.r := rfl

@[simp] theorem State.ctl_setMain (s : State) (v : Bank) : (s.setMain v).ctl = s.ctl := rfl

@[simp] theorem State.store_setMain (s : State) (v : Bank) : (s.setMain v).store = s.store := rfl

@[simp] theorem State.cycles_setMain (s : State) (v : Bank) : (s.setMain v).cycles = s.cycles := rfl

@[simp] theorem State.plane_setMain (s : State) (v : Bank) : (s.setMain v).plane = s.plane := rfl

@[simp] theorem State.refused_setMain (s : State) (v : Bank) : (s.setMain v).refused = s.refused := rfl

@[simp] theorem State.params_setMain (s : State) (v : Bank) : (s.setMain v).params = s.params := rfl

@[simp] theorem State.io_setMain (s : State) (v : Bank) : (s.setMain v).io = s.io := rfl

@[simp] theorem State.draws_setMain (s : State) (v : Bank) : (s.setMain v).draws = s.draws := rfl

/-! setAlt -/

@[simp] theorem State.main_setAlt (s : State) (v : Bank) : (s.setAlt v).main = s.main := rfl

@[simp] theorem State.alt_setAlt (s : State) (v : Bank) : (s.setAlt v).alt = v := rfl

@[simp] theorem State.ix_setAlt (s : State) (v : Bank) : (s.setAlt v).ix = s.ix := rfl

@[simp] theorem State.iy_setAlt (s : State) (v : Bank) : (s.setAlt v).iy = s.iy := rfl

@[simp] theorem State.sp_setAlt (s : State) (v : Bank) : (s.setAlt v).sp = s.sp := rfl

@[simp] theorem State.pc_setAlt (s : State) (v : Bank) : (s.setAlt v).pc = s.pc := rfl

@[simp] theorem State.i_setAlt (s : State) (v : Bank) : (s.setAlt v).i = s.i := rfl

@[simp] theorem State.r_setAlt (s : State) (v : Bank) : (s.setAlt v).r = s.r := rfl

@[simp] theorem State.ctl_setAlt (s : State) (v : Bank) : (s.setAlt v).ctl = s.ctl := rfl

@[simp] theorem State.store_setAlt (s : State) (v : Bank) : (s.setAlt v).store = s.store := rfl

@[simp] theorem State.cycles_setAlt (s : State) (v : Bank) : (s.setAlt v).cycles = s.cycles := rfl

@[simp] theorem State.plane_setAlt (s : State) (v : Bank) : (s.setAlt v).plane = s.plane := rfl

@[simp] theorem State.refused_setAlt (s : State) (v : Bank) : (s.setAlt v).refused = s.refused := rfl

@[simp] theorem State.params_setAlt (s : State) (v : Bank) : (s.setAlt v).params = s.params := rfl

@[simp] theorem State.io_setAlt (s : State) (v : Bank) : (s.setAlt v).io = s.io := rfl

@[simp] theorem State.draws_setAlt (s : State) (v : Bank) : (s.setAlt v).draws = s.draws := rfl

/-! setIx -/

@[simp] theorem State.main_setIx (s : State) (v : Word) : (s.setIx v).main = s.main := rfl

@[simp] theorem State.alt_setIx (s : State) (v : Word) : (s.setIx v).alt = s.alt := rfl

@[simp] theorem State.ix_setIx (s : State) (v : Word) : (s.setIx v).ix = v := rfl

@[simp] theorem State.iy_setIx (s : State) (v : Word) : (s.setIx v).iy = s.iy := rfl

@[simp] theorem State.sp_setIx (s : State) (v : Word) : (s.setIx v).sp = s.sp := rfl

@[simp] theorem State.pc_setIx (s : State) (v : Word) : (s.setIx v).pc = s.pc := rfl

@[simp] theorem State.i_setIx (s : State) (v : Word) : (s.setIx v).i = s.i := rfl

@[simp] theorem State.r_setIx (s : State) (v : Word) : (s.setIx v).r = s.r := rfl

@[simp] theorem State.ctl_setIx (s : State) (v : Word) : (s.setIx v).ctl = s.ctl := rfl

@[simp] theorem State.store_setIx (s : State) (v : Word) : (s.setIx v).store = s.store := rfl

@[simp] theorem State.cycles_setIx (s : State) (v : Word) : (s.setIx v).cycles = s.cycles := rfl

@[simp] theorem State.plane_setIx (s : State) (v : Word) : (s.setIx v).plane = s.plane := rfl

@[simp] theorem State.refused_setIx (s : State) (v : Word) : (s.setIx v).refused = s.refused := rfl

@[simp] theorem State.params_setIx (s : State) (v : Word) : (s.setIx v).params = s.params := rfl

@[simp] theorem State.io_setIx (s : State) (v : Word) : (s.setIx v).io = s.io := rfl

@[simp] theorem State.draws_setIx (s : State) (v : Word) : (s.setIx v).draws = s.draws := rfl

/-! setIy -/

@[simp] theorem State.main_setIy (s : State) (v : Word) : (s.setIy v).main = s.main := rfl

@[simp] theorem State.alt_setIy (s : State) (v : Word) : (s.setIy v).alt = s.alt := rfl

@[simp] theorem State.ix_setIy (s : State) (v : Word) : (s.setIy v).ix = s.ix := rfl

@[simp] theorem State.iy_setIy (s : State) (v : Word) : (s.setIy v).iy = v := rfl

@[simp] theorem State.sp_setIy (s : State) (v : Word) : (s.setIy v).sp = s.sp := rfl

@[simp] theorem State.pc_setIy (s : State) (v : Word) : (s.setIy v).pc = s.pc := rfl

@[simp] theorem State.i_setIy (s : State) (v : Word) : (s.setIy v).i = s.i := rfl

@[simp] theorem State.r_setIy (s : State) (v : Word) : (s.setIy v).r = s.r := rfl

@[simp] theorem State.ctl_setIy (s : State) (v : Word) : (s.setIy v).ctl = s.ctl := rfl

@[simp] theorem State.store_setIy (s : State) (v : Word) : (s.setIy v).store = s.store := rfl

@[simp] theorem State.cycles_setIy (s : State) (v : Word) : (s.setIy v).cycles = s.cycles := rfl

@[simp] theorem State.plane_setIy (s : State) (v : Word) : (s.setIy v).plane = s.plane := rfl

@[simp] theorem State.refused_setIy (s : State) (v : Word) : (s.setIy v).refused = s.refused := rfl

@[simp] theorem State.params_setIy (s : State) (v : Word) : (s.setIy v).params = s.params := rfl

@[simp] theorem State.io_setIy (s : State) (v : Word) : (s.setIy v).io = s.io := rfl

@[simp] theorem State.draws_setIy (s : State) (v : Word) : (s.setIy v).draws = s.draws := rfl

/-! setSp -/

@[simp] theorem State.main_setSp (s : State) (v : Word) : (s.setSp v).main = s.main := rfl

@[simp] theorem State.alt_setSp (s : State) (v : Word) : (s.setSp v).alt = s.alt := rfl

@[simp] theorem State.ix_setSp (s : State) (v : Word) : (s.setSp v).ix = s.ix := rfl

@[simp] theorem State.iy_setSp (s : State) (v : Word) : (s.setSp v).iy = s.iy := rfl

@[simp] theorem State.sp_setSp (s : State) (v : Word) : (s.setSp v).sp = v := rfl

@[simp] theorem State.pc_setSp (s : State) (v : Word) : (s.setSp v).pc = s.pc := rfl

@[simp] theorem State.i_setSp (s : State) (v : Word) : (s.setSp v).i = s.i := rfl

@[simp] theorem State.r_setSp (s : State) (v : Word) : (s.setSp v).r = s.r := rfl

@[simp] theorem State.ctl_setSp (s : State) (v : Word) : (s.setSp v).ctl = s.ctl := rfl

@[simp] theorem State.store_setSp (s : State) (v : Word) : (s.setSp v).store = s.store := rfl

@[simp] theorem State.cycles_setSp (s : State) (v : Word) : (s.setSp v).cycles = s.cycles := rfl

@[simp] theorem State.plane_setSp (s : State) (v : Word) : (s.setSp v).plane = s.plane := rfl

@[simp] theorem State.refused_setSp (s : State) (v : Word) : (s.setSp v).refused = s.refused := rfl

@[simp] theorem State.params_setSp (s : State) (v : Word) : (s.setSp v).params = s.params := rfl

@[simp] theorem State.io_setSp (s : State) (v : Word) : (s.setSp v).io = s.io := rfl

@[simp] theorem State.draws_setSp (s : State) (v : Word) : (s.setSp v).draws = s.draws := rfl

/-! setPc -/

@[simp] theorem State.main_setPc (s : State) (v : Word) : (s.setPc v).main = s.main := rfl

@[simp] theorem State.alt_setPc (s : State) (v : Word) : (s.setPc v).alt = s.alt := rfl

@[simp] theorem State.ix_setPc (s : State) (v : Word) : (s.setPc v).ix = s.ix := rfl

@[simp] theorem State.iy_setPc (s : State) (v : Word) : (s.setPc v).iy = s.iy := rfl

@[simp] theorem State.sp_setPc (s : State) (v : Word) : (s.setPc v).sp = s.sp := rfl

@[simp] theorem State.pc_setPc (s : State) (v : Word) : (s.setPc v).pc = v := rfl

@[simp] theorem State.i_setPc (s : State) (v : Word) : (s.setPc v).i = s.i := rfl

@[simp] theorem State.r_setPc (s : State) (v : Word) : (s.setPc v).r = s.r := rfl

@[simp] theorem State.ctl_setPc (s : State) (v : Word) : (s.setPc v).ctl = s.ctl := rfl

@[simp] theorem State.store_setPc (s : State) (v : Word) : (s.setPc v).store = s.store := rfl

@[simp] theorem State.cycles_setPc (s : State) (v : Word) : (s.setPc v).cycles = s.cycles := rfl

@[simp] theorem State.plane_setPc (s : State) (v : Word) : (s.setPc v).plane = s.plane := rfl

@[simp] theorem State.refused_setPc (s : State) (v : Word) : (s.setPc v).refused = s.refused := rfl

@[simp] theorem State.params_setPc (s : State) (v : Word) : (s.setPc v).params = s.params := rfl

@[simp] theorem State.io_setPc (s : State) (v : Word) : (s.setPc v).io = s.io := rfl

@[simp] theorem State.draws_setPc (s : State) (v : Word) : (s.setPc v).draws = s.draws := rfl

/-! setI -/

@[simp] theorem State.main_setI (s : State) (v : Byte) : (s.setI v).main = s.main := rfl

@[simp] theorem State.alt_setI (s : State) (v : Byte) : (s.setI v).alt = s.alt := rfl

@[simp] theorem State.ix_setI (s : State) (v : Byte) : (s.setI v).ix = s.ix := rfl

@[simp] theorem State.iy_setI (s : State) (v : Byte) : (s.setI v).iy = s.iy := rfl

@[simp] theorem State.sp_setI (s : State) (v : Byte) : (s.setI v).sp = s.sp := rfl

@[simp] theorem State.pc_setI (s : State) (v : Byte) : (s.setI v).pc = s.pc := rfl

@[simp] theorem State.i_setI (s : State) (v : Byte) : (s.setI v).i = v := rfl

@[simp] theorem State.r_setI (s : State) (v : Byte) : (s.setI v).r = s.r := rfl

@[simp] theorem State.ctl_setI (s : State) (v : Byte) : (s.setI v).ctl = s.ctl := rfl

@[simp] theorem State.store_setI (s : State) (v : Byte) : (s.setI v).store = s.store := rfl

@[simp] theorem State.cycles_setI (s : State) (v : Byte) : (s.setI v).cycles = s.cycles := rfl

@[simp] theorem State.plane_setI (s : State) (v : Byte) : (s.setI v).plane = s.plane := rfl

@[simp] theorem State.refused_setI (s : State) (v : Byte) : (s.setI v).refused = s.refused := rfl

@[simp] theorem State.params_setI (s : State) (v : Byte) : (s.setI v).params = s.params := rfl

@[simp] theorem State.io_setI (s : State) (v : Byte) : (s.setI v).io = s.io := rfl

@[simp] theorem State.draws_setI (s : State) (v : Byte) : (s.setI v).draws = s.draws := rfl

/-! setR -/

@[simp] theorem State.main_setR (s : State) (v : Byte) : (s.setR v).main = s.main := rfl

@[simp] theorem State.alt_setR (s : State) (v : Byte) : (s.setR v).alt = s.alt := rfl

@[simp] theorem State.ix_setR (s : State) (v : Byte) : (s.setR v).ix = s.ix := rfl

@[simp] theorem State.iy_setR (s : State) (v : Byte) : (s.setR v).iy = s.iy := rfl

@[simp] theorem State.sp_setR (s : State) (v : Byte) : (s.setR v).sp = s.sp := rfl

@[simp] theorem State.pc_setR (s : State) (v : Byte) : (s.setR v).pc = s.pc := rfl

@[simp] theorem State.i_setR (s : State) (v : Byte) : (s.setR v).i = s.i := rfl

@[simp] theorem State.r_setR (s : State) (v : Byte) : (s.setR v).r = v := rfl

@[simp] theorem State.ctl_setR (s : State) (v : Byte) : (s.setR v).ctl = s.ctl := rfl

@[simp] theorem State.store_setR (s : State) (v : Byte) : (s.setR v).store = s.store := rfl

@[simp] theorem State.cycles_setR (s : State) (v : Byte) : (s.setR v).cycles = s.cycles := rfl

@[simp] theorem State.plane_setR (s : State) (v : Byte) : (s.setR v).plane = s.plane := rfl

@[simp] theorem State.refused_setR (s : State) (v : Byte) : (s.setR v).refused = s.refused := rfl

@[simp] theorem State.params_setR (s : State) (v : Byte) : (s.setR v).params = s.params := rfl

@[simp] theorem State.io_setR (s : State) (v : Byte) : (s.setR v).io = s.io := rfl

@[simp] theorem State.draws_setR (s : State) (v : Byte) : (s.setR v).draws = s.draws := rfl

/-! setCtl -/

@[simp] theorem State.main_setCtl (s : State) (v : Ctl) : (s.setCtl v).main = s.main := rfl

@[simp] theorem State.alt_setCtl (s : State) (v : Ctl) : (s.setCtl v).alt = s.alt := rfl

@[simp] theorem State.ix_setCtl (s : State) (v : Ctl) : (s.setCtl v).ix = s.ix := rfl

@[simp] theorem State.iy_setCtl (s : State) (v : Ctl) : (s.setCtl v).iy = s.iy := rfl

@[simp] theorem State.sp_setCtl (s : State) (v : Ctl) : (s.setCtl v).sp = s.sp := rfl

@[simp] theorem State.pc_setCtl (s : State) (v : Ctl) : (s.setCtl v).pc = s.pc := rfl

@[simp] theorem State.i_setCtl (s : State) (v : Ctl) : (s.setCtl v).i = s.i := rfl

@[simp] theorem State.r_setCtl (s : State) (v : Ctl) : (s.setCtl v).r = s.r := rfl

@[simp] theorem State.ctl_setCtl (s : State) (v : Ctl) : (s.setCtl v).ctl = v := rfl

@[simp] theorem State.store_setCtl (s : State) (v : Ctl) : (s.setCtl v).store = s.store := rfl

@[simp] theorem State.cycles_setCtl (s : State) (v : Ctl) : (s.setCtl v).cycles = s.cycles := rfl

@[simp] theorem State.plane_setCtl (s : State) (v : Ctl) : (s.setCtl v).plane = s.plane := rfl

@[simp] theorem State.refused_setCtl (s : State) (v : Ctl) : (s.setCtl v).refused = s.refused := rfl

@[simp] theorem State.params_setCtl (s : State) (v : Ctl) : (s.setCtl v).params = s.params := rfl

@[simp] theorem State.io_setCtl (s : State) (v : Ctl) : (s.setCtl v).io = s.io := rfl

@[simp] theorem State.draws_setCtl (s : State) (v : Ctl) : (s.setCtl v).draws = s.draws := rfl

/-! setStore -/

@[simp] theorem State.main_setStore (s : State) (v : Store) : (s.setStore v).main = s.main := rfl

@[simp] theorem State.alt_setStore (s : State) (v : Store) : (s.setStore v).alt = s.alt := rfl

@[simp] theorem State.ix_setStore (s : State) (v : Store) : (s.setStore v).ix = s.ix := rfl

@[simp] theorem State.iy_setStore (s : State) (v : Store) : (s.setStore v).iy = s.iy := rfl

@[simp] theorem State.sp_setStore (s : State) (v : Store) : (s.setStore v).sp = s.sp := rfl

@[simp] theorem State.pc_setStore (s : State) (v : Store) : (s.setStore v).pc = s.pc := rfl

@[simp] theorem State.i_setStore (s : State) (v : Store) : (s.setStore v).i = s.i := rfl

@[simp] theorem State.r_setStore (s : State) (v : Store) : (s.setStore v).r = s.r := rfl

@[simp] theorem State.ctl_setStore (s : State) (v : Store) : (s.setStore v).ctl = s.ctl := rfl

@[simp] theorem State.store_setStore (s : State) (v : Store) : (s.setStore v).store = v := rfl

@[simp] theorem State.cycles_setStore (s : State) (v : Store) : (s.setStore v).cycles = s.cycles := rfl

@[simp] theorem State.plane_setStore (s : State) (v : Store) : (s.setStore v).plane = s.plane := rfl

@[simp] theorem State.refused_setStore (s : State) (v : Store) : (s.setStore v).refused = s.refused := rfl

@[simp] theorem State.params_setStore (s : State) (v : Store) : (s.setStore v).params = s.params := rfl

@[simp] theorem State.io_setStore (s : State) (v : Store) : (s.setStore v).io = s.io := rfl

@[simp] theorem State.draws_setStore (s : State) (v : Store) : (s.setStore v).draws = s.draws := rfl

/-! setCycles -/

@[simp] theorem State.main_setCycles (s : State) (v : Nat) : (s.setCycles v).main = s.main := rfl

@[simp] theorem State.alt_setCycles (s : State) (v : Nat) : (s.setCycles v).alt = s.alt := rfl

@[simp] theorem State.ix_setCycles (s : State) (v : Nat) : (s.setCycles v).ix = s.ix := rfl

@[simp] theorem State.iy_setCycles (s : State) (v : Nat) : (s.setCycles v).iy = s.iy := rfl

@[simp] theorem State.sp_setCycles (s : State) (v : Nat) : (s.setCycles v).sp = s.sp := rfl

@[simp] theorem State.pc_setCycles (s : State) (v : Nat) : (s.setCycles v).pc = s.pc := rfl

@[simp] theorem State.i_setCycles (s : State) (v : Nat) : (s.setCycles v).i = s.i := rfl

@[simp] theorem State.r_setCycles (s : State) (v : Nat) : (s.setCycles v).r = s.r := rfl

@[simp] theorem State.ctl_setCycles (s : State) (v : Nat) : (s.setCycles v).ctl = s.ctl := rfl

@[simp] theorem State.store_setCycles (s : State) (v : Nat) : (s.setCycles v).store = s.store := rfl

@[simp] theorem State.cycles_setCycles (s : State) (v : Nat) : (s.setCycles v).cycles = v := rfl

@[simp] theorem State.plane_setCycles (s : State) (v : Nat) : (s.setCycles v).plane = s.plane := rfl

@[simp] theorem State.refused_setCycles (s : State) (v : Nat) : (s.setCycles v).refused = s.refused := rfl

@[simp] theorem State.params_setCycles (s : State) (v : Nat) : (s.setCycles v).params = s.params := rfl

@[simp] theorem State.io_setCycles (s : State) (v : Nat) : (s.setCycles v).io = s.io := rfl

@[simp] theorem State.draws_setCycles (s : State) (v : Nat) : (s.setCycles v).draws = s.draws := rfl

/-! setDebug -/

@[simp] theorem State.main_setDebug (s : State) (v : Debug) : (s.setDebug v).main = s.main := rfl

@[simp] theorem State.alt_setDebug (s : State) (v : Debug) : (s.setDebug v).alt = s.alt := rfl

@[simp] theorem State.ix_setDebug (s : State) (v : Debug) : (s.setDebug v).ix = s.ix := rfl

@[simp] theorem State.iy_setDebug (s : State) (v : Debug) : (s.setDebug v).iy = s.iy := rfl

@[simp] theorem State.sp_setDebug (s : State) (v : Debug) : (s.setDebug v).sp = s.sp := rfl

@[simp] theorem State.pc_setDebug (s : State) (v : Debug) : (s.setDebug v).pc = s.pc := rfl

@[simp] theorem State.i_setDebug (s : State) (v : Debug) : (s.setDebug v).i = s.i := rfl

@[simp] theorem State.r_setDebug (s : State) (v : Debug) : (s.setDebug v).r = s.r := rfl

@[simp] theorem State.ctl_setDebug (s : State) (v : Debug) : (s.setDebug v).ctl = s.ctl := rfl

@[simp] theorem State.store_setDebug (s : State) (v : Debug) : (s.setDebug v).store = s.store := rfl

@[simp] theorem State.cycles_setDebug (s : State) (v : Debug) : (s.setDebug v).cycles = s.cycles := rfl

@[simp] theorem State.plane_setDebug (s : State) (v : Debug) : (s.setDebug v).plane = v := rfl

@[simp] theorem State.refused_setDebug (s : State) (v : Debug) : (s.setDebug v).refused = s.refused := rfl

@[simp] theorem State.params_setDebug (s : State) (v : Debug) : (s.setDebug v).params = s.params := rfl

@[simp] theorem State.io_setDebug (s : State) (v : Debug) : (s.setDebug v).io = s.io := rfl

@[simp] theorem State.draws_setDebug (s : State) (v : Debug) : (s.setDebug v).draws = s.draws := rfl

/-! setRefused -/

@[simp] theorem State.main_setRefused (s : State) (v : Bool) : (s.setRefused v).main = s.main := rfl

@[simp] theorem State.alt_setRefused (s : State) (v : Bool) : (s.setRefused v).alt = s.alt := rfl

@[simp] theorem State.ix_setRefused (s : State) (v : Bool) : (s.setRefused v).ix = s.ix := rfl

@[simp] theorem State.iy_setRefused (s : State) (v : Bool) : (s.setRefused v).iy = s.iy := rfl

@[simp] theorem State.sp_setRefused (s : State) (v : Bool) : (s.setRefused v).sp = s.sp := rfl

@[simp] theorem State.pc_setRefused (s : State) (v : Bool) : (s.setRefused v).pc = s.pc := rfl

@[simp] theorem State.i_setRefused (s : State) (v : Bool) : (s.setRefused v).i = s.i := rfl

@[simp] theorem State.r_setRefused (s : State) (v : Bool) : (s.setRefused v).r = s.r := rfl

@[simp] theorem State.ctl_setRefused (s : State) (v : Bool) : (s.setRefused v).ctl = s.ctl := rfl

@[simp] theorem State.store_setRefused (s : State) (v : Bool) : (s.setRefused v).store = s.store := rfl

@[simp] theorem State.cycles_setRefused (s : State) (v : Bool) : (s.setRefused v).cycles = s.cycles := rfl

@[simp] theorem State.plane_setRefused (s : State) (v : Bool) : (s.setRefused v).plane = s.plane := rfl

@[simp] theorem State.refused_setRefused (s : State) (v : Bool) : (s.setRefused v).refused = v := rfl

@[simp] theorem State.params_setRefused (s : State) (v : Bool) : (s.setRefused v).params = s.params := rfl

@[simp] theorem State.io_setRefused (s : State) (v : Bool) : (s.setRefused v).io = s.io := rfl

@[simp] theorem State.draws_setRefused (s : State) (v : Bool) : (s.setRefused v).draws = s.draws := rfl

/-! setIo -/

@[simp] theorem State.main_setIo (s : State) (v : Io) : (s.setIo v).main = s.main := rfl

@[simp] theorem State.alt_setIo (s : State) (v : Io) : (s.setIo v).alt = s.alt := rfl

@[simp] theorem State.ix_setIo (s : State) (v : Io) : (s.setIo v).ix = s.ix := rfl

@[simp] theorem State.iy_setIo (s : State) (v : Io) : (s.setIo v).iy = s.iy := rfl

@[simp] theorem State.sp_setIo (s : State) (v : Io) : (s.setIo v).sp = s.sp := rfl

@[simp] theorem State.pc_setIo (s : State) (v : Io) : (s.setIo v).pc = s.pc := rfl

@[simp] theorem State.i_setIo (s : State) (v : Io) : (s.setIo v).i = s.i := rfl

@[simp] theorem State.r_setIo (s : State) (v : Io) : (s.setIo v).r = s.r := rfl

@[simp] theorem State.ctl_setIo (s : State) (v : Io) : (s.setIo v).ctl = s.ctl := rfl

@[simp] theorem State.store_setIo (s : State) (v : Io) : (s.setIo v).store = s.store := rfl

@[simp] theorem State.cycles_setIo (s : State) (v : Io) : (s.setIo v).cycles = s.cycles := rfl

@[simp] theorem State.plane_setIo (s : State) (v : Io) : (s.setIo v).plane = s.plane := rfl

@[simp] theorem State.refused_setIo (s : State) (v : Io) : (s.setIo v).refused = s.refused := rfl

@[simp] theorem State.params_setIo (s : State) (v : Io) : (s.setIo v).params = s.params := rfl

@[simp] theorem State.io_setIo (s : State) (v : Io) : (s.setIo v).io = v := rfl

@[simp] theorem State.draws_setIo (s : State) (v : Io) : (s.setIo v).draws = s.draws := rfl

/-! setDraws -/

@[simp] theorem State.main_setDraws (s : State) (v : Nat) : (s.setDraws v).main = s.main := rfl

@[simp] theorem State.alt_setDraws (s : State) (v : Nat) : (s.setDraws v).alt = s.alt := rfl

@[simp] theorem State.ix_setDraws (s : State) (v : Nat) : (s.setDraws v).ix = s.ix := rfl

@[simp] theorem State.iy_setDraws (s : State) (v : Nat) : (s.setDraws v).iy = s.iy := rfl

@[simp] theorem State.sp_setDraws (s : State) (v : Nat) : (s.setDraws v).sp = s.sp := rfl

@[simp] theorem State.pc_setDraws (s : State) (v : Nat) : (s.setDraws v).pc = s.pc := rfl

@[simp] theorem State.i_setDraws (s : State) (v : Nat) : (s.setDraws v).i = s.i := rfl

@[simp] theorem State.r_setDraws (s : State) (v : Nat) : (s.setDraws v).r = s.r := rfl

@[simp] theorem State.ctl_setDraws (s : State) (v : Nat) : (s.setDraws v).ctl = s.ctl := rfl

@[simp] theorem State.store_setDraws (s : State) (v : Nat) : (s.setDraws v).store = s.store := rfl

@[simp] theorem State.cycles_setDraws (s : State) (v : Nat) : (s.setDraws v).cycles = s.cycles := rfl

@[simp] theorem State.plane_setDraws (s : State) (v : Nat) : (s.setDraws v).plane = s.plane := rfl

@[simp] theorem State.refused_setDraws (s : State) (v : Nat) : (s.setDraws v).refused = s.refused := rfl

@[simp] theorem State.params_setDraws (s : State) (v : Nat) : (s.setDraws v).params = s.params := rfl

@[simp] theorem State.io_setDraws (s : State) (v : Nat) : (s.setDraws v).io = s.io := rfl

@[simp] theorem State.draws_setDraws (s : State) (v : Nat) : (s.setDraws v).draws = v := rfl

/-! fetch, spend, drawn -/

@[simp] theorem State.main_fetch (s : State) (n m : Nat) : (s.fetch n m).main = s.main := rfl

@[simp] theorem State.alt_fetch (s : State) (n m : Nat) : (s.fetch n m).alt = s.alt := rfl

@[simp] theorem State.ix_fetch (s : State) (n m : Nat) : (s.fetch n m).ix = s.ix := rfl

@[simp] theorem State.iy_fetch (s : State) (n m : Nat) : (s.fetch n m).iy = s.iy := rfl

@[simp] theorem State.sp_fetch (s : State) (n m : Nat) : (s.fetch n m).sp = s.sp := rfl

@[simp] theorem State.pc_fetch (s : State) (n m : Nat) : (s.fetch n m).pc = s.pc + BitVec.ofNat 16 n := rfl

@[simp] theorem State.i_fetch (s : State) (n m : Nat) : (s.fetch n m).i = s.i := rfl

@[simp] theorem State.r_fetch (s : State) (n m : Nat) : (s.fetch n m).r = bumpR m s.r := rfl

@[simp] theorem State.ctl_fetch (s : State) (n m : Nat) : (s.fetch n m).ctl = s.ctl := rfl

@[simp] theorem State.store_fetch (s : State) (n m : Nat) : (s.fetch n m).store = s.store := rfl

@[simp] theorem State.cycles_fetch (s : State) (n m : Nat) : (s.fetch n m).cycles = s.cycles := rfl

@[simp] theorem State.plane_fetch (s : State) (n m : Nat) : (s.fetch n m).plane = s.plane := rfl

@[simp] theorem State.refused_fetch (s : State) (n m : Nat) : (s.fetch n m).refused = s.refused := rfl

@[simp] theorem State.params_fetch (s : State) (n m : Nat) : (s.fetch n m).params = s.params := rfl

@[simp] theorem State.io_fetch (s : State) (n m : Nat) : (s.fetch n m).io = s.io := rfl

@[simp] theorem State.draws_fetch (s : State) (n m : Nat) : (s.fetch n m).draws = s.draws := rfl

@[simp] theorem State.main_spend (s : State) (t : Nat) : (s.spend t).main = s.main := rfl

@[simp] theorem State.alt_spend (s : State) (t : Nat) : (s.spend t).alt = s.alt := rfl

@[simp] theorem State.ix_spend (s : State) (t : Nat) : (s.spend t).ix = s.ix := rfl

@[simp] theorem State.iy_spend (s : State) (t : Nat) : (s.spend t).iy = s.iy := rfl

@[simp] theorem State.sp_spend (s : State) (t : Nat) : (s.spend t).sp = s.sp := rfl

@[simp] theorem State.pc_spend (s : State) (t : Nat) : (s.spend t).pc = s.pc := rfl

@[simp] theorem State.i_spend (s : State) (t : Nat) : (s.spend t).i = s.i := rfl

@[simp] theorem State.r_spend (s : State) (t : Nat) : (s.spend t).r = s.r := rfl

@[simp] theorem State.ctl_spend (s : State) (t : Nat) : (s.spend t).ctl = s.ctl := rfl

@[simp] theorem State.store_spend (s : State) (t : Nat) : (s.spend t).store = s.store := rfl

@[simp] theorem State.cycles_spend (s : State) (t : Nat) : (s.spend t).cycles = s.cycles + t := rfl

@[simp] theorem State.plane_spend (s : State) (t : Nat) : (s.spend t).plane = s.plane := rfl

@[simp] theorem State.refused_spend (s : State) (t : Nat) : (s.spend t).refused = s.refused := rfl

@[simp] theorem State.params_spend (s : State) (t : Nat) : (s.spend t).params = s.params := rfl

@[simp] theorem State.io_spend (s : State) (t : Nat) : (s.spend t).io = s.io := rfl

@[simp] theorem State.draws_spend (s : State) (t : Nat) : (s.spend t).draws = s.draws := rfl

@[simp] theorem State.main_drawn (s : State) : s.drawn.main = s.main := rfl

@[simp] theorem State.alt_drawn (s : State) : s.drawn.alt = s.alt := rfl

@[simp] theorem State.ix_drawn (s : State) : s.drawn.ix = s.ix := rfl

@[simp] theorem State.iy_drawn (s : State) : s.drawn.iy = s.iy := rfl

@[simp] theorem State.sp_drawn (s : State) : s.drawn.sp = s.sp := rfl

@[simp] theorem State.pc_drawn (s : State) : s.drawn.pc = s.pc := rfl

@[simp] theorem State.i_drawn (s : State) : s.drawn.i = s.i := rfl

@[simp] theorem State.r_drawn (s : State) : s.drawn.r = s.r := rfl

@[simp] theorem State.ctl_drawn (s : State) : s.drawn.ctl = s.ctl := rfl

@[simp] theorem State.store_drawn (s : State) : s.drawn.store = s.store := rfl

@[simp] theorem State.cycles_drawn (s : State) : s.drawn.cycles = s.cycles := rfl

@[simp] theorem State.plane_drawn (s : State) : s.drawn.plane = s.plane := rfl

@[simp] theorem State.refused_drawn (s : State) : s.drawn.refused = s.refused := rfl

@[simp] theorem State.params_drawn (s : State) : s.drawn.params = s.params := rfl

@[simp] theorem State.io_drawn (s : State) : s.drawn.io = s.io := rfl

@[simp] theorem State.draws_drawn (s : State) : s.drawn.draws = s.draws + 1 := rfl

/-! after, goto -/

@[simp] theorem State.main_after (s u : State) (n m t : Nat) : (s.after n m t u).main = u.main := rfl

@[simp] theorem State.alt_after (s u : State) (n m t : Nat) : (s.after n m t u).alt = u.alt := rfl

@[simp] theorem State.ix_after (s u : State) (n m t : Nat) : (s.after n m t u).ix = u.ix := rfl

@[simp] theorem State.iy_after (s u : State) (n m t : Nat) : (s.after n m t u).iy = u.iy := rfl

@[simp] theorem State.sp_after (s u : State) (n m t : Nat) : (s.after n m t u).sp = u.sp := rfl

@[simp] theorem State.pc_after (s u : State) (n m t : Nat) : (s.after n m t u).pc = s.pc + BitVec.ofNat 16 n := rfl

@[simp] theorem State.i_after (s u : State) (n m t : Nat) : (s.after n m t u).i = u.i := rfl

@[simp] theorem State.r_after (s u : State) (n m t : Nat) : (s.after n m t u).r = bumpR m s.r := rfl

@[simp] theorem State.ctl_after (s u : State) (n m t : Nat) : (s.after n m t u).ctl = u.ctl := rfl

@[simp] theorem State.store_after (s u : State) (n m t : Nat) : (s.after n m t u).store = u.store := rfl

@[simp] theorem State.cycles_after (s u : State) (n m t : Nat) : (s.after n m t u).cycles = s.cycles + t := rfl

@[simp] theorem State.plane_after (s u : State) (n m t : Nat) : (s.after n m t u).plane = u.plane := rfl

@[simp] theorem State.refused_after (s u : State) (n m t : Nat) : (s.after n m t u).refused = u.refused := rfl

@[simp] theorem State.params_after (s u : State) (n m t : Nat) : (s.after n m t u).params = u.params := rfl

@[simp] theorem State.io_after (s u : State) (n m t : Nat) : (s.after n m t u).io = u.io := rfl

@[simp] theorem State.draws_after (s u : State) (n m t : Nat) : (s.after n m t u).draws = u.draws := rfl

@[simp] theorem State.main_goto (u : State) (w : Word) : (u.goto w).main = u.main := rfl

@[simp] theorem State.alt_goto (u : State) (w : Word) : (u.goto w).alt = u.alt := rfl

@[simp] theorem State.ix_goto (u : State) (w : Word) : (u.goto w).ix = u.ix := rfl

@[simp] theorem State.iy_goto (u : State) (w : Word) : (u.goto w).iy = u.iy := rfl

@[simp] theorem State.sp_goto (u : State) (w : Word) : (u.goto w).sp = u.sp := rfl

@[simp] theorem State.pc_goto (u : State) (w : Word) : (u.goto w).pc = w := rfl

@[simp] theorem State.i_goto (u : State) (w : Word) : (u.goto w).i = u.i := rfl

@[simp] theorem State.r_goto (u : State) (w : Word) : (u.goto w).r = u.r := rfl

@[simp] theorem State.ctl_goto (u : State) (w : Word) : (u.goto w).ctl = u.ctl := rfl

@[simp] theorem State.store_goto (u : State) (w : Word) : (u.goto w).store = u.store := rfl

@[simp] theorem State.cycles_goto (u : State) (w : Word) : (u.goto w).cycles = u.cycles := rfl

@[simp] theorem State.plane_goto (u : State) (w : Word) : (u.goto w).plane = u.plane := rfl

@[simp] theorem State.refused_goto (u : State) (w : Word) : (u.goto w).refused = u.refused := rfl

@[simp] theorem State.params_goto (u : State) (w : Word) : (u.goto w).params = u.params := rfl

@[simp] theorem State.io_goto (u : State) (w : Word) : (u.goto w).io = u.io := rfl

@[simp] theorem State.draws_goto (u : State) (w : Word) : (u.goto w).draws = u.draws := rfl

/-! Messages and writes: only the registry, and only memory, mapper and the registry -/

@[simp] theorem State.main_emit (s : State) (ev : MsgEvent) : (s.emit ev).main = s.main := rfl

@[simp] theorem State.alt_emit (s : State) (ev : MsgEvent) : (s.emit ev).alt = s.alt := rfl

@[simp] theorem State.ix_emit (s : State) (ev : MsgEvent) : (s.emit ev).ix = s.ix := rfl

@[simp] theorem State.iy_emit (s : State) (ev : MsgEvent) : (s.emit ev).iy = s.iy := rfl

@[simp] theorem State.sp_emit (s : State) (ev : MsgEvent) : (s.emit ev).sp = s.sp := rfl

@[simp] theorem State.pc_emit (s : State) (ev : MsgEvent) : (s.emit ev).pc = s.pc := rfl

@[simp] theorem State.i_emit (s : State) (ev : MsgEvent) : (s.emit ev).i = s.i := rfl

@[simp] theorem State.r_emit (s : State) (ev : MsgEvent) : (s.emit ev).r = s.r := rfl

@[simp] theorem State.ctl_emit (s : State) (ev : MsgEvent) : (s.emit ev).ctl = s.ctl := rfl

@[simp] theorem State.store_emit (s : State) (ev : MsgEvent) : (s.emit ev).store = s.store := rfl

@[simp] theorem State.cycles_emit (s : State) (ev : MsgEvent) : (s.emit ev).cycles = s.cycles := rfl

@[simp] theorem State.refused_emit (s : State) (ev : MsgEvent) : (s.emit ev).refused = s.refused := rfl

@[simp] theorem State.params_emit (s : State) (ev : MsgEvent) : (s.emit ev).params = s.params := rfl

@[simp] theorem State.io_emit (s : State) (ev : MsgEvent) : (s.emit ev).io = s.io := rfl

@[simp] theorem State.draws_emit (s : State) (ev : MsgEvent) : (s.emit ev).draws = s.draws := rfl

@[simp] theorem State.main_emitIf (s : State) (on : Bool) (ev : MsgEvent) : (s.emitIf on ev).main = s.main := by
  cases on <;> rfl

@[simp] theorem State.alt_emitIf (s : State) (on : Bool) (ev : MsgEvent) : (s.emitIf on ev).alt = s.alt := by
  cases on <;> rfl

@[simp] theorem State.ix_emitIf (s : State) (on : Bool) (ev : MsgEvent) : (s.emitIf on ev).ix = s.ix := by
  cases on <;> rfl

@[simp] theorem State.iy_emitIf (s : State) (on : Bool) (ev : MsgEvent) : (s.emitIf on ev).iy = s.iy := by
  cases on <;> rfl

@[simp] theorem State.sp_emitIf (s : State) (on : Bool) (ev : MsgEvent) : (s.emitIf on ev).sp = s.sp := by
  cases on <;> rfl

@[simp] theorem State.pc_emitIf (s : State) (on : Bool) (ev : MsgEvent) : (s.emitIf on ev).pc = s.pc := by
  cases on <;> rfl

@[simp] theorem State.i_emitIf (s : State) (on : Bool) (ev : MsgEvent) : (s.emitIf on ev).i = s.i := by
  cases on <;> rfl

@[simp] theorem State.r_emitIf (s : State) (on : Bool) (ev : MsgEvent) : (s.emitIf on ev).r = s.r := by
  cases on <;> rfl

@[simp] theorem State.ctl_emitIf (s : State) (on : Bool) (ev : MsgEvent) : (s.emitIf on ev).ctl = s.ctl := by
  cases on <;> rfl

@[simp] theorem State.store_emitIf (s : State) (on : Bool) (ev : MsgEvent) : (s.emitIf on ev).store = s.store := by
  cases on <;> rfl

@[simp] theorem State.cycles_emitIf (s : State) (on : Bool) (ev : MsgEvent) : (s.emitIf on ev).cycles = s.cycles := by
  cases on <;> rfl

@[simp] theorem State.refused_emitIf (s : State) (on : Bool) (ev : MsgEvent) : (s.emitIf on ev).refused = s.refused := by
  cases on <;> rfl

@[simp] theorem State.params_emitIf (s : State) (on : Bool) (ev : MsgEvent) : (s.emitIf on ev).params = s.params := by
  cases on <;> rfl

@[simp] theorem State.io_emitIf (s : State) (on : Bool) (ev : MsgEvent) : (s.emitIf on ev).io = s.io := by
  cases on <;> rfl

@[simp] theorem State.draws_emitIf (s : State) (on : Bool) (ev : MsgEvent) : (s.emitIf on ev).draws = s.draws := by
  cases on <;> rfl

@[simp] theorem State.main_wrote (s : State) (a : Word) (v : Byte) : (s.wrote a v).main = s.main := by
  simp [State.wrote]

@[simp] theorem State.alt_wrote (s : State) (a : Word) (v : Byte) : (s.wrote a v).alt = s.alt := by
  simp [State.wrote]

@[simp] theorem State.ix_wrote (s : State) (a : Word) (v : Byte) : (s.wrote a v).ix = s.ix := by
  simp [State.wrote]

@[simp] theorem State.iy_wrote (s : State) (a : Word) (v : Byte) : (s.wrote a v).iy = s.iy := by
  simp [State.wrote]

@[simp] theorem State.sp_wrote (s : State) (a : Word) (v : Byte) : (s.wrote a v).sp = s.sp := by
  simp [State.wrote]

@[simp] theorem State.pc_wrote (s : State) (a : Word) (v : Byte) : (s.wrote a v).pc = s.pc := by
  simp [State.wrote]

@[simp] theorem State.i_wrote (s : State) (a : Word) (v : Byte) : (s.wrote a v).i = s.i := by
  simp [State.wrote]

@[simp] theorem State.r_wrote (s : State) (a : Word) (v : Byte) : (s.wrote a v).r = s.r := by
  simp [State.wrote]

@[simp] theorem State.ctl_wrote (s : State) (a : Word) (v : Byte) : (s.wrote a v).ctl = s.ctl := by
  simp [State.wrote]

@[simp] theorem State.store_wrote (s : State) (a : Word) (v : Byte) : (s.wrote a v).store = s.store.write a v := by
  simp [State.wrote]

@[simp] theorem State.cycles_wrote (s : State) (a : Word) (v : Byte) : (s.wrote a v).cycles = s.cycles := by
  simp [State.wrote]

@[simp] theorem State.refused_wrote (s : State) (a : Word) (v : Byte) : (s.wrote a v).refused = s.refused := by
  simp [State.wrote]

@[simp] theorem State.params_wrote (s : State) (a : Word) (v : Byte) : (s.wrote a v).params = s.params := by
  simp [State.wrote]

@[simp] theorem State.io_wrote (s : State) (a : Word) (v : Byte) : (s.wrote a v).io = s.io := by
  simp [State.wrote]

@[simp] theorem State.draws_wrote (s : State) (a : Word) (v : Byte) : (s.wrote a v).draws = s.draws := by
  simp [State.wrote]

end Sys2Proof.Machine
end

