-- ==== Sys2Proof/Laws/Store.lean ====
section
/-! SUPPORT. What translation and one byte write can do (20_memory R70 to R97). -/

namespace Sys2Proof.Machine

/-! The parts of a store after a write -/

@[simp] theorem Store.rom_write (st : Store) (a : Word) (v : Byte) : (st.write a v).rom = st.rom := by
  unfold Store.write Store.writeLoc; cases st.locate a <;> rfl

@[simp] theorem Store.romLen_write (st : Store) (a : Word) (v : Byte) : (st.write a v).romLen = st.romLen := by
  unfold Store.write Store.writeLoc; cases st.locate a <;> rfl

@[simp] theorem Store.ramSize_write (st : Store) (a : Word) (v : Byte) : (st.write a v).ramSize = st.ramSize := by
  unfold Store.write Store.writeLoc; cases st.locate a <;> rfl

theorem Store.mapper_write (st : Store) (a : Word) (v : Byte) :
    (st.write a v).mapper = (st.mapper.control a v).getD st.mapper := rfl

/-- A control write keeps the mapper kind. -/
theorem Mapper.kind_control {m m' : Mapper} {a : Word} {v : Byte} (h : m.control a v = some m') : m'.kind = m.kind := by
  cases m <;> simp only [Mapper.control] at h <;> (repeat' split at h) <;> simp_all [Mapper.kind] <;> subst h <;> rfl

@[simp] theorem Store.kind_write (st : Store) (a : Word) (v : Byte) :
    (st.write a v).mapper.kind = st.mapper.kind := by
  rw [Store.mapper_write]
  cases h : st.mapper.control a v with
  | none => rfl
  | some m => exact Mapper.kind_control h

/-- What is refused depends on the mapper kind alone, not on the registers. -/
theorem Mapper.refuses_of_kind {m m' : Mapper} (h : m.kind = m'.kind) (a : Word) (v : Byte) :
    m.refuses a v = m'.refuses a v := by
  cases m <;> cases m' <;> simp_all [Mapper.kind, Mapper.refuses]

@[simp] theorem Store.refuses_write (st : Store) (a b : Word) (v w : Byte) :
    (st.write a v).mapper.refuses b w = st.mapper.refuses b w :=
  Mapper.refuses_of_kind (Store.kind_write st a v) b w

/-! Bytes by location -/

/-- A write to a location leaves every other location alone. -/
theorem Store.readLoc_writeLoc_other (st : Store) (l k : Loc) (v : Byte) (h : k ≠ l) :
    (st.writeLoc l v).readLoc k = st.readLoc k := by
  cases l <;> cases k <;> simp_all [Store.writeLoc, Store.readLoc, Memory.read_write_other]

/-- A read of a writable location just written gives the byte. -/
theorem Store.readLoc_writeLoc_same (st : Store) (l : Loc) (v : Byte) (h : l.writable = true) :
    (st.writeLoc l v).readLoc l = v := by
  cases l <;> simp_all [Store.writeLoc, Store.readLoc, Loc.writable, Memory.read_write_same]

@[simp] theorem Store.readLoc_mapper (st : Store) (m : Mapper) (l : Loc) :
    ({ st with mapper := m } : Store).readLoc l = st.readLoc l := by
  cases l <;> rfl

theorem Store.readLoc_write_other (st : Store) (a : Word) (v : Byte) (l : Loc) (h : l ≠ st.locate a) :
    (st.write a v).readLoc l = st.readLoc l := by
  rw [Store.write, Store.readLoc_mapper, Store.readLoc_writeLoc_other _ _ _ _ h]

/-! Translation -/

/-- Translation looks at the mapper and the sizes only. -/
theorem Store.locate_congr {st st' : Store} (hm : st'.mapper = st.mapper) (hl : st'.romLen = st.romLen)
    (hr : st'.ramSize = st.ramSize) (a : Word) : st'.locate a = st.locate a := by
  obtain ⟨_, _, _, _, _, _⟩ := st
  obtain ⟨_, _, _, _, _, _⟩ := st'
  simp only at hm hl hr
  subst hm hl hr
  rfl

/-- A write at no control address leaves the translation as it was. -/
theorem Store.locate_write (st : Store) (a b : Word) (v : Byte) (h : st.mapper.control a v = none) :
    (st.write a v).locate b = st.locate b :=
  Store.locate_congr (by rw [Store.mapper_write, h]; rfl) (Store.romLen_write st a v) (Store.ramSize_write st a v) b

/-- Where a write lands in RAM, its address leads to the same place after it, control address or not. -/
theorem Store.locate_write_self (st : Store) (a : Word) (v : Byte) (h : (st.locate a).writable = true) :
    (st.write a v).locate a = st.locate a := by
  by_cases ha : 0xC000 ≤ a.toNat
  · simp [Store.locate, ha]
  · have hc : st.mapper.control a v = none := by
      cases hm : st.mapper with
      | standard g =>
        have h1 : a ≠ 0xFFFC#16 := by rintro rfl; exact ha (by decide)
        have h2 : a ≠ 0xFFFD#16 := by rintro rfl; exact ha (by decide)
        have h3 : a ≠ 0xFFFE#16 := by rintro rfl; exact ha (by decide)
        have h4 : a ≠ 0xFFFF#16 := by rintro rfl; exact ha (by decide)
        simp [Mapper.control, h1, h2, h3, h4]
      | codeMasters g =>
        exfalso
        revert h
        simp only [Store.locate, ha, if_false, hm, Store.locateCodeMasters]
        split
        · simp [Loc.writable]
        · split <;> simp [Loc.writable]
      | sg1000 => rfl
      | noMapper => rfl
    exact Store.locate_write st a a v hc

/-- Read after write (20_memory R100). -/
theorem Store.read_write_same (st : Store) (a : Word) (v : Byte) (h : (st.locate a).writable = true) :
    (st.write a v).read a = v := by
  rw [Store.read, Store.locate_write_self st a v h, Store.write, Store.readLoc_mapper,
    Store.readLoc_writeLoc_same _ _ _ h]

/-- A write that lands in no RAM byte and at no control address changes nothing. -/
theorem Store.write_ignored (st : Store) (a : Word) (v : Byte) (h : (st.locate a).writable = false)
    (hc : st.mapper.control a v = none) : st.write a v = st := by
  unfold Store.write Store.writeLoc
  cases hl : st.locate a <;> simp_all [Loc.writable]

/-! The canonical form -/

/-- A system RAM offset is below the RAM size. -/
theorem Store.locate_ram_lt {st : Store} {a : Word} {off : Nat} (hs : 0 < st.ramSize) (h : st.locate a = .ram off) :
    off < st.ramSize := by
  unfold Store.locate at h
  split at h
  · simp only [Loc.ram.injEq] at h; rw [← h]; exact Nat.mod_lt _ hs
  · cases hm : st.mapper with
    | standard g =>
      simp only [hm, Store.locateStandard] at h
      (repeat' split at h) <;> simp only [reduceCtorEq] at h
    | codeMasters g =>
      simp only [hm, Store.locateCodeMasters] at h
      (repeat' split at h) <;> simp only [reduceCtorEq] at h
    | sg1000 => simp only [hm, Store.locateLinear] at h; split at h <;> simp only [reduceCtorEq] at h
    | noMapper => simp only [hm, Store.locateLinear] at h; split at h <;> simp only [reduceCtorEq] at h

/-- A cartridge RAM offset is below 32 KiB, and the kind is Standard. -/
theorem Store.locate_cart_lt {st : Store} {a : Word} {off : Nat} (h : st.locate a = .cart off) :
    off < Config.cartSize ∧ st.mapper.kind = .standard := by
  unfold Store.locate at h
  split at h
  · cases h
  · next ha =>
    cases hm : st.mapper with
    | standard g =>
      simp only [hm, Store.locateStandard] at h
      (repeat' split at h) <;> simp only [reduceCtorEq, Loc.cart.injEq] at h
      · exact ⟨by rw [← h]; simp only [Config.cartSize, Config.pageSize]; omega, rfl⟩
      · exact ⟨by rw [← h]; simp only [Config.cartSize]; omega, rfl⟩
    | codeMasters g =>
      simp only [hm, Store.locateCodeMasters] at h
      (repeat' split at h) <;> simp only [reduceCtorEq] at h
    | sg1000 => simp only [hm, Store.locateLinear] at h; split at h <;> simp only [reduceCtorEq] at h
    | noMapper => simp only [hm, Store.locateLinear] at h; split at h <;> simp only [reduceCtorEq] at h

/-- A control write that is not refused keeps the mapper legal. -/
theorem Mapper.legal_control {m m' : Mapper} {a : Word} {v : Byte} (h : m.control a v = some m') (hr : m.refuses a v = false)
    (hm : m.legal = true) : m'.legal = true := by
  cases m <;> simp only [Mapper.control] at h <;> (repeat' split at h) <;>
    simp_all [Mapper.legal, Mapper.refuses] <;> subst h <;> simp_all

end Sys2Proof.Machine
end

