-- ==== Sys2Proof/Laws/Ops.lean ====
section
/-! SUPPORT. What each shared operation can do, said once: a lemma that gives the whole answer, and one for each field it keeps. -/

namespace Sys2Proof.Machine

/-! Sequencing -/

@[simp] theorem andThen_next (s : State) (f : State → Result) : andThen (.next s) f = f s := rfl

@[simp] theorem andThen_fault (e : Fault) (f : State → Result) : andThen (.fault e) f = .fault e := rfl

@[simp] theorem andThen_refused (e : Refusal) (f : State → Result) : andThen (.refused e) f = .refused e := rfl

@[simp] theorem finish_next (t : Nat) (s : State) : finish t (.next s) = .next (s.spend t) := rfl

@[simp] theorem finish_fault (t : Nat) (e : Fault) : finish t (.fault e) = .fault e := rfl

@[simp] theorem finish_refused (t : Nat) (e : Refusal) : finish t (.refused e) = .refused e := rfl

theorem andThen_eq_next {x : Result} {f : State → Result} {t : State} :
    andThen x f = .next t ↔ ∃ u, x = .next u ∧ f u = .next t := by
  cases x <;> simp [andThen]

theorem done_eq_next {n : Nat} {s t : State} : done n s = .next t ↔ s.spend n = t := by
  simp [done]

theorem finish_eq_next {n : Nat} {x : Result} {t : State} : finish n x = .next t ↔ ∃ u, x = .next u ∧ u.spend n = t := by
  unfold finish
  rw [andThen_eq_next]
  simp [done]

/-! Messages: the registry's message part is all they reach -/

theorem State.emit_eq (s : State) (ev : MsgEvent) :
    s.emit ev = { s with plane := { s.plane with msgs := (s.emit ev).plane.msgs, msgHit := (s.emit ev).plane.msgHit } } := rfl

/-- An emission is a change of `plane` alone, within `msgs` and `msgHit`. -/
theorem State.emitIf_eq (s : State) (on : Bool) (ev : MsgEvent) :
    s.emitIf on ev =
      { s with plane := { s.plane with msgs := (s.emitIf on ev).plane.msgs, msgHit := (s.emitIf on ev).plane.msgHit } } := by
  cases on <;> rfl

@[simp] theorem State.emitIf_false (s : State) (ev : MsgEvent) : s.emitIf false ev = s := rfl

@[simp] theorem State.emitIf_true (s : State) (ev : MsgEvent) : s.emitIf true ev = s.emit ev := rfl

/-- A ring buffer never holds more than its capacity (10_state R46). -/
theorem length_ringAppend {n : Nat} {ts : List Text} (t : Text) (hn : 1 ≤ n) (h : ts.length ≤ n) :
    (ringAppend n ts t).length ≤ n := by
  unfold ringAppend
  split <;> simp <;> omega

/-! One byte written -/

/-- A write reaches memory, the mapper and the messages (20_memory R71, R72). -/
theorem State.wrote_eq (s : State) (a : Word) (v : Byte) :
    s.wrote a v =
      { s with store := s.store.write a v
               plane := { s.plane with msgs := (s.wrote a v).plane.msgs, msgHit := (s.wrote a v).plane.msgHit } } := by
  unfold State.wrote
  rw [State.emitIf_eq]
  rfl

theorem State.write8_eq_next {s t : State} {a : Word} {v : Byte} :
    s.write8 a v = .next t ↔ s.store.mapper.refuses a v = false ∧ s.wrote a v = t := by
  unfold State.write8
  split <;> simp_all

theorem State.write8_ok {s : State} {a : Word} {v : Byte} (h : s.store.mapper.refuses a v = false) :
    s.write8 a v = .next (s.wrote a v) := by simp [State.write8, h]

theorem State.write8_refused {s : State} {a : Word} {v : Byte} (h : s.store.mapper.refuses a v = true) :
    s.write8 a v = .refused .unmodelledMapperControl := by simp [State.write8, h]

/-- Only memory, mapper and parameters decide what a write makes of a state: it passes a change of any other field. -/
theorem State.wrote_congr (s : State) (a : Word) (v : Byte) (u : State) (h1 : u.store = s.store) (h2 : u.params = s.params)
    (h3 : u.plane = s.plane) : u.wrote a v = { u with store := (s.wrote a v).store, plane := (s.wrote a v).plane } := by
  obtain ⟨_, _, _, _, _, _, _, _, _, _, _, _, _, _, _, _⟩ := u
  simp only at h1 h2 h3
  subst h1 h2 h3
  cases h : s.params.logRomWrites && s.store.ignoresWrite a v <;> simp [State.wrote, State.emitIf, h] <;> rfl

/-! A write commutes with a change of any other part -/

theorem State.wrote_setMain (s : State) (a : Word) (v : Byte) (k : Bank) :
    (s.setMain k).wrote a v = (s.wrote a v).setMain k := by
  rw [State.wrote_congr s a v (s.setMain k) rfl rfl rfl, State.wrote_eq s]; rfl

theorem State.wrote_setAlt (s : State) (a : Word) (v : Byte) (k : Bank) :
    (s.setAlt k).wrote a v = (s.wrote a v).setAlt k := by
  rw [State.wrote_congr s a v (s.setAlt k) rfl rfl rfl, State.wrote_eq s]; rfl

theorem State.wrote_setIx (s : State) (a : Word) (v : Byte) (w : Word) :
    (s.setIx w).wrote a v = (s.wrote a v).setIx w := by
  rw [State.wrote_congr s a v (s.setIx w) rfl rfl rfl, State.wrote_eq s]; rfl

theorem State.wrote_setIy (s : State) (a : Word) (v : Byte) (w : Word) :
    (s.setIy w).wrote a v = (s.wrote a v).setIy w := by
  rw [State.wrote_congr s a v (s.setIy w) rfl rfl rfl, State.wrote_eq s]; rfl

theorem State.wrote_setSp (s : State) (a : Word) (v : Byte) (w : Word) :
    (s.setSp w).wrote a v = (s.wrote a v).setSp w := by
  rw [State.wrote_congr s a v (s.setSp w) rfl rfl rfl, State.wrote_eq s]; rfl

theorem State.wrote_setPc (s : State) (a : Word) (v : Byte) (w : Word) :
    (s.setPc w).wrote a v = (s.wrote a v).setPc w := by
  rw [State.wrote_congr s a v (s.setPc w) rfl rfl rfl, State.wrote_eq s]; rfl

theorem State.wrote_setI (s : State) (a : Word) (v : Byte) (b : Byte) :
    (s.setI b).wrote a v = (s.wrote a v).setI b := by
  rw [State.wrote_congr s a v (s.setI b) rfl rfl rfl, State.wrote_eq s]; rfl

theorem State.wrote_setR (s : State) (a : Word) (v : Byte) (b : Byte) :
    (s.setR b).wrote a v = (s.wrote a v).setR b := by
  rw [State.wrote_congr s a v (s.setR b) rfl rfl rfl, State.wrote_eq s]; rfl

theorem State.wrote_setCtl (s : State) (a : Word) (v : Byte) (k : Ctl) :
    (s.setCtl k).wrote a v = (s.wrote a v).setCtl k := by
  rw [State.wrote_congr s a v (s.setCtl k) rfl rfl rfl, State.wrote_eq s]; rfl

theorem State.wrote_setCycles (s : State) (a : Word) (v : Byte) (n : Nat) :
    (s.setCycles n).wrote a v = (s.wrote a v).setCycles n := by
  rw [State.wrote_congr s a v (s.setCycles n) rfl rfl rfl, State.wrote_eq s]; rfl

theorem State.wrote_setRefused (s : State) (a : Word) (v : Byte) (b : Bool) :
    (s.setRefused b).wrote a v = (s.wrote a v).setRefused b := by
  rw [State.wrote_congr s a v (s.setRefused b) rfl rfl rfl, State.wrote_eq s]; rfl

theorem State.wrote_setIo (s : State) (a : Word) (v : Byte) (k : Io) :
    (s.setIo k).wrote a v = (s.wrote a v).setIo k := by
  rw [State.wrote_congr s a v (s.setIo k) rfl rfl rfl, State.wrote_eq s]; rfl

theorem State.wrote_setDraws (s : State) (a : Word) (v : Byte) (n : Nat) :
    (s.setDraws n).wrote a v = (s.wrote a v).setDraws n := by
  rw [State.wrote_congr s a v (s.setDraws n) rfl rfl rfl, State.wrote_eq s]; rfl

theorem State.wrote_fetch (s : State) (a : Word) (v : Byte) (l m : Nat) :
    (s.fetch l m).wrote a v = (s.wrote a v).fetch l m := by
  simp [State.fetch, State.wrote_setR, State.wrote_setPc]

/-! Two bytes written -/

@[simp] theorem State.store_wroteWord (s : State) (a v : Word) :
    (s.wroteWord a v).store = (s.store.write a (lo v)).write (a + 1) (hi v) := by simp [State.wroteWord]

@[simp] theorem State.main_wroteWord (s : State) (a v : Word) : (s.wroteWord a v).main = s.main := by simp [State.wroteWord]

@[simp] theorem State.alt_wroteWord (s : State) (a v : Word) : (s.wroteWord a v).alt = s.alt := by simp [State.wroteWord]

@[simp] theorem State.ix_wroteWord (s : State) (a v : Word) : (s.wroteWord a v).ix = s.ix := by simp [State.wroteWord]

@[simp] theorem State.iy_wroteWord (s : State) (a v : Word) : (s.wroteWord a v).iy = s.iy := by simp [State.wroteWord]

@[simp] theorem State.sp_wroteWord (s : State) (a v : Word) : (s.wroteWord a v).sp = s.sp := by simp [State.wroteWord]

@[simp] theorem State.pc_wroteWord (s : State) (a v : Word) : (s.wroteWord a v).pc = s.pc := by simp [State.wroteWord]

@[simp] theorem State.i_wroteWord (s : State) (a v : Word) : (s.wroteWord a v).i = s.i := by simp [State.wroteWord]

@[simp] theorem State.r_wroteWord (s : State) (a v : Word) : (s.wroteWord a v).r = s.r := by simp [State.wroteWord]

@[simp] theorem State.ctl_wroteWord (s : State) (a v : Word) : (s.wroteWord a v).ctl = s.ctl := by simp [State.wroteWord]

@[simp] theorem State.cycles_wroteWord (s : State) (a v : Word) : (s.wroteWord a v).cycles = s.cycles :=
  by simp [State.wroteWord]

@[simp] theorem State.refused_wroteWord (s : State) (a v : Word) : (s.wroteWord a v).refused = s.refused :=
  by simp [State.wroteWord]

@[simp] theorem State.params_wroteWord (s : State) (a v : Word) : (s.wroteWord a v).params = s.params :=
  by simp [State.wroteWord]

@[simp] theorem State.io_wroteWord (s : State) (a v : Word) : (s.wroteWord a v).io = s.io := by simp [State.wroteWord]

@[simp] theorem State.draws_wroteWord (s : State) (a v : Word) : (s.wroteWord a v).draws = s.draws :=
  by simp [State.wroteWord]

/-- The whole answer of `MemWrite(a, 2, v)`: refused where one of its bytes is, which the kind alone decides (20_memory R72, R83). -/
theorem State.write16_eq (s : State) (a v : Word) :
    s.write16 a v =
      if s.store.mapper.refuses a (lo v) || s.store.mapper.refuses (a + 1) (hi v) then .refused .unmodelledMapperControl
      else .next (s.wroteWord a v) := by
  generalize hb : a + 1 = b
  unfold State.write16 State.wroteWord State.write8
  rw [hb]
  cases h1 : s.store.mapper.refuses a (lo v) <;> cases h2 : s.store.mapper.refuses b (hi v) <;> simp [h2]

theorem State.write16_eq_next {s t : State} {a v : Word} :
    s.write16 a v = .next t ↔
      (s.store.mapper.refuses a (lo v) || s.store.mapper.refuses (a + 1) (hi v)) = false ∧ s.wroteWord a v = t := by
  rw [State.write16_eq]
  cases s.store.mapper.refuses a (lo v) || s.store.mapper.refuses (a + 1) (hi v) <;> simp

theorem State.pushed_eq (s : State) (v : Word) :
    s.pushed v = ((s.wrote (s.sp - 1) (hi v)).wrote (s.sp - 2) (lo v)).setSp (s.sp - 2) := rfl

@[simp] theorem State.store_pushed (s : State) (v : Word) :
    (s.pushed v).store = (s.store.write (s.sp - 1) (hi v)).write (s.sp - 2) (lo v) := by simp [State.pushed]

@[simp] theorem State.sp_pushed (s : State) (v : Word) : (s.pushed v).sp = s.sp - 2 := rfl

@[simp] theorem State.main_pushed (s : State) (v : Word) : (s.pushed v).main = s.main := by simp [State.pushed]

@[simp] theorem State.alt_pushed (s : State) (v : Word) : (s.pushed v).alt = s.alt := by simp [State.pushed]

@[simp] theorem State.ix_pushed (s : State) (v : Word) : (s.pushed v).ix = s.ix := by simp [State.pushed]

@[simp] theorem State.iy_pushed (s : State) (v : Word) : (s.pushed v).iy = s.iy := by simp [State.pushed]

@[simp] theorem State.pc_pushed (s : State) (v : Word) : (s.pushed v).pc = s.pc := by simp [State.pushed]

@[simp] theorem State.i_pushed (s : State) (v : Word) : (s.pushed v).i = s.i := by simp [State.pushed]

@[simp] theorem State.r_pushed (s : State) (v : Word) : (s.pushed v).r = s.r := by simp [State.pushed]

@[simp] theorem State.ctl_pushed (s : State) (v : Word) : (s.pushed v).ctl = s.ctl := by simp [State.pushed]

@[simp] theorem State.cycles_pushed (s : State) (v : Word) : (s.pushed v).cycles = s.cycles := by simp [State.pushed]

@[simp] theorem State.refused_pushed (s : State) (v : Word) : (s.pushed v).refused = s.refused := by simp [State.pushed]

@[simp] theorem State.params_pushed (s : State) (v : Word) : (s.pushed v).params = s.params := by simp [State.pushed]

@[simp] theorem State.io_pushed (s : State) (v : Word) : (s.pushed v).io = s.io := by simp [State.pushed]

@[simp] theorem State.draws_pushed (s : State) (v : Word) : (s.pushed v).draws = s.draws := by simp [State.pushed]

/-- The whole answer of `Push16(v)`. -/
theorem State.push16_eq (s : State) (v : Word) :
    s.push16 v =
      if s.store.mapper.refuses (s.sp - 1) (hi v) || s.store.mapper.refuses (s.sp - 2) (lo v) then
        .refused .unmodelledMapperControl
      else .next (s.pushed v) := by
  have e : s.sp - 1 - 1 = s.sp - 2 := by bv_omega
  rw [State.pushed_eq]
  unfold State.push16 State.write8
  generalize s.sp - 2 = b at e ⊢
  generalize s.sp - 1 = a at e ⊢
  simp only [State.store_setSp, State.wrote_setSp]
  cases h1 : s.store.mapper.refuses a (hi v) <;> cases h2 : s.store.mapper.refuses b (lo v) <;>
    simp only [h2, e, andThen_next, andThen_refused, State.store_setSp, State.store_wrote, State.sp_setSp, Store.refuses_write,
      State.wrote_setSp, Bool.or_false, Bool.or_true, Bool.or_self, if_true, if_false, Bool.false_eq_true] <;> rfl

theorem State.push16_eq_next {s t : State} {v : Word} :
    s.push16 v = .next t ↔
      (s.store.mapper.refuses (s.sp - 1) (hi v) || s.store.mapper.refuses (s.sp - 2) (lo v)) = false ∧ s.pushed v = t := by
  rw [State.push16_eq]
  cases s.store.mapper.refuses (s.sp - 1) (hi v) || s.store.mapper.refuses (s.sp - 2) (lo v) <;> simp

theorem State.wroteWord_fetch (s : State) (a v : Word) (l m : Nat) :
    (s.fetch l m).wroteWord a v = (s.wroteWord a v).fetch l m := by
  simp only [State.wroteWord, State.wrote_fetch]

theorem State.pushed_fetch (s : State) (v : Word) (l m : Nat) : (s.fetch l m).pushed v = (s.pushed v).fetch l m := by
  simp only [State.pushed_eq, State.wrote_fetch, State.sp_fetch]
  rfl

/-- The state an instruction leaves, in the terms of the statements: what it did to s apart from PC, R and CYCLES is u. -/
theorem State.spend_fetch_eq (s u : State) (l m t : Nat) (hp : u.pc = s.pc) (hr : u.r = s.r) (hc : u.cycles = s.cycles) :
    (u.fetch l m).spend t = s.after l m t u := by
  unfold State.fetch State.spend State.after
  rw [hp, hr]
  simp only [State.cycles_setR, State.cycles_setPc, hc]
  rfl

theorem State.spend_fetch (s : State) (l m t : Nat) : (s.fetch l m).spend t = s.after l m t s := rfl

theorem State.spend_fetch_wrote (s : State) (l m t : Nat) (a : Word) (v : Byte) :
    ((s.fetch l m).wrote a v).spend t = s.after l m t (s.wrote a v) := by
  rw [State.wrote_fetch, State.spend_fetch_eq s _ l m t (by simp) (by simp) (by simp)]

theorem State.spend_fetch_wroteWord (s : State) (l m t : Nat) (a v : Word) :
    ((s.fetch l m).wroteWord a v).spend t = s.after l m t (s.wroteWord a v) := by
  rw [State.wroteWord_fetch, State.spend_fetch_eq s _ l m t (by simp) (by simp) (by simp)]

theorem State.spend_fetch_pushed (s : State) (l m t : Nat) (v : Word) :
    ((s.fetch l m).pushed v).spend t = s.after l m t (s.pushed v) := by
  rw [State.pushed_fetch, State.spend_fetch_eq s _ l m t (by simp) (by simp) (by simp)]

/-- A meaning that goes on with f after one byte write answers as `WritesOne` says. -/
theorem writesOne_of {i : Instr} {s u t : State} {a : Word} {v : Byte} {f : State → Result}
    (he : exec i s = andThen (u.write8 a v) f) (hs : u.store = s.store) (ht : f (u.wrote a v) = .next t) :
    WritesOne i s a v t := by
  constructor
  · intro h
    rw [he, State.write8_ok (by rw [hs]; exact h), andThen_next, ht]
  · intro h
    rw [he, State.write8_refused (by rw [hs]; exact h), andThen_refused]

/-- A meaning that goes on with f after `MemWrite(a, 2, w)` answers as `WritesTwo` says. -/
theorem writesTwo_of_write16 {i : Instr} {s u t : State} {a w : Word} {f : State → Result}
    (he : exec i s = andThen (u.write16 a w) f) (hs : u.store = s.store) (ht : f (u.wroteWord a w) = .next t) :
    WritesTwo i s a (lo w) (a + 1) (hi w) t := by
  rw [State.write16_eq, hs] at he
  constructor <;> intro h <;> rw [he, h]
  · exact ht
  · rfl

/-- A meaning that goes on with f after `Push16(w)` answers as `WritesTwo` says. -/
theorem writesTwo_of_push16 {i : Instr} {s u t : State} {w : Word} {f : State → Result}
    (he : exec i s = andThen (u.push16 w) f) (hs : u.store = s.store) (hp : u.sp = s.sp) (ht : f (u.pushed w) = .next t) :
    WritesTwo i s (s.sp - 1) (hi w) (s.sp - 2) (lo w) t := by
  rw [State.push16_eq, hs, hp] at he
  constructor <;> intro h <;> rw [he, h]
  · exact ht
  · rfl

/-- The whole answer of an entry into a handler (60_exceptions R423, R424). -/
theorem State.enterHandler_eq (s : State) (k : Ctl) (vector : State → Word) (t : Nat) :
    s.enterHandler k vector t =
      let u := ((s.setCtl k).setR (bumpR 1 s.r)).pushed s.pc
      if s.store.mapper.refuses (s.sp - 1) (hi s.pc) || s.store.mapper.refuses (s.sp - 2) (lo s.pc) then
        .refused .unmodelledMapperControl
      else .next ((u.setPc (vector u)).spend t) := by
  unfold State.enterHandler
  rw [State.push16_eq]
  simp only [State.store_setR, State.store_setCtl, State.sp_setR, State.sp_setCtl]
  by_cases h : (s.store.mapper.refuses (s.sp - 1) (hi s.pc) || s.store.mapper.refuses (s.sp - 2) (lo s.pc)) = true
  · simp only [h, if_true, andThen_refused]
  · simp only [h, if_false, andThen_next, done, Bool.false_eq_true]

/-! Halves of a word (00_scope R11) -/

@[simp] theorem lo_join (h l : Byte) : lo (join h l) = l := by
  unfold lo join
  apply BitVec.eq_of_getLsbD_eq
  intro k hk
  rw [BitVec.getLsbD_extractLsb', BitVec.getLsbD_append]
  simp [hk]

@[simp] theorem hi_join (h l : Byte) : hi (join h l) = h := by
  unfold hi join
  apply BitVec.eq_of_getLsbD_eq
  intro k hk
  rw [BitVec.getLsbD_extractLsb', BitVec.getLsbD_append]
  simp [hk]

@[simp] theorem join_hi_lo (w : Word) : join (hi w) (lo w) = w := by
  unfold hi lo join
  apply BitVec.eq_of_getLsbD_eq
  intro k hk
  simp only [BitVec.getLsbD_append, BitVec.getLsbD_extractLsb']
  by_cases h8 : k < 8
  · simp [h8]
  · simp [h8, show k - 8 < 8 by omega, show 8 + (k - 8) = k by omega]

/-! The refresh register (10_state R33) -/

theorem toNat_bumpR (k : Nat) (r : Byte) : (bumpR k r).toNat = r.toNat / 128 * 128 + (r.toNat + k) % 128 := by
  unfold bumpR
  have hr := r.isLt
  rw [BitVec.toNat_append, BitVec.toNat_add, BitVec.extractLsb'_toNat, BitVec.extractLsb'_toNat, BitVec.toNat_ofNat,
    ← Nat.shiftLeft_add_eq_or_of_lt (Nat.mod_lt _ (by decide)), Nat.shiftLeft_eq]
  simp only [Nat.shiftRight_eq_div_pow]
  omega

theorem getLsbD_bumpR (k : Nat) (r : Byte) : (bumpR k r).getLsbD 7 = r.getLsbD 7 := by
  unfold bumpR
  rw [BitVec.getLsbD_append]
  simp

theorem bumpR_bumpR (j k : Nat) (r : Byte) : bumpR j (bumpR k r) = bumpR (j + k) r := by
  apply BitVec.eq_of_toNat_eq
  simp only [toNat_bumpR]
  omega

/-! The store's canonical form -/

/-- A write that is not refused keeps the store's form (20_memory R71, R83, R93). -/
theorem Store.wf_write {st : Store} {a : Word} {v : Byte} (hr : st.mapper.refuses a v = false) (h : st.wf = true) :
    (st.write a v).wf = true := by
  unfold Store.wf at h ⊢
  rw [Store.kind_write, Store.rom_write, Store.romLen_write, Store.ramSize_write]
  simp only [Bool.and_eq_true] at h ⊢
  obtain ⟨⟨⟨⟨⟨⟨⟨⟨⟨h1, h2⟩, h3⟩, h4⟩, h5⟩, h6⟩, h7⟩, h8⟩, h9⟩, h10⟩ := h
  have hs : 0 < st.ramSize := by
    have hm : st.ramSize ∈ ramSizes := by simpa using h9
    simp only [ramSizes, List.mem_cons, List.not_mem_nil, or_false] at hm
    omega
  have hl : ((st.mapper.control a v).getD st.mapper).legal = true := by
    cases hc : st.mapper.control a v with
    | none => exact h10
    | some m => exact Mapper.legal_control hc hr h10
  refine ⟨⟨⟨⟨⟨⟨⟨⟨⟨h1, h2⟩, ?_⟩, ?_⟩, ?_⟩, ?_⟩, ?_⟩, h8⟩, h9⟩, hl⟩ <;>
    (unfold Store.write Store.writeLoc; cases hloc : st.locate a <;> dsimp only <;> try assumption)
  · exact Memory.wf_write _ _ h3
  · exact Memory.below_write _ h4 (Store.locate_ram_lt hs hloc)
  · exact Memory.wf_write _ _ h5
  · exact Memory.below_write _ h6 (Store.locate_cart_lt hloc).1
  · simp [(Store.locate_cart_lt hloc).2]

end Sys2Proof.Machine
end

