-- ==== Sys2Proof/Laws/Flags.lean ====
section
/-! SUPPORT. The flag bytes bit by bit, and the results as numbers (10_state R27, R28; 43_alu8; 44_alu16; 45_rotate_bit). -/

namespace Sys2Proof.Machine

/-- The bits of a packed F. -/
theorem flagsAre_packF (s z y h x p n c : Bool) : FlagsAre (packF s z y h x p n c) s z y h x p n c := by
  revert s z y h x p n c
  unfold FlagsAre packF
  decide

theorem flagsAre_packSzyx (v : Byte) (h p n c : Bool) :
    FlagsAre (packSzyx v h p n c) (v.getLsbD 7) (v == 0) (v.getLsbD 5) h (v.getLsbD 3) p n c :=
  flagsAre_packF ..

theorem flagsAre_keepSzp (f a : Byte) (h n c : Bool) :
    FlagsAre (keepSzp f a h n c) (f.getLsbD 7) (f.getLsbD 6) (a.getLsbD 5) h (a.getLsbD 3) (f.getLsbD 2) n c :=
  flagsAre_packF ..

/-- PV of the logic group counts the 1 bits (00_scope R9). -/
theorem parity_eq (v : Byte) : parity v = evenOnes v := by
  revert v
  decide +kernel

/-! Results as numbers -/

theorem toNat_add8 (a s : Byte) (c : Bool) : (add8 a s c).toNat = (a.toNat + s.toNat + c.toNat) % 256 := by
  simp [add8]

theorem toNat_sub8 (a s : Byte) (c : Bool) : ((sub8 a s c).toNat : Int) = ((a.toNat : Int) - s.toNat - c.toNat) % 256 := by
  simp [sub8, BitVec.toNat_ofInt]
  omega

theorem toNat_add16 (a s : Word) (c : Bool) : (add16 a s c).toNat = (a.toNat + s.toNat + c.toNat) % 65536 := by
  simp [add16]

theorem toNat_sub16 (a s : Word) (c : Bool) : ((sub16 a s c).toNat : Int) = ((a.toNat : Int) - s.toNat - c.toNat) % 65536 := by
  simp [sub16, BitVec.toNat_ofInt]
  omega

/-! Two's-complement overflow (10_state R28) -/

theorem getLsbD_seven (v : Byte) : v.getLsbD 7 = decide (128 ≤ v.toNat) := by
  revert v
  decide +kernel

theorem toInt_byte (v : Byte) : v.toInt = if 128 ≤ v.toNat then (v.toNat : Int) - 256 else v.toNat := by
  rw [BitVec.toInt_eq_toNat_cond]
  have := v.isLt
  split <;> split <;> omega

theorem getLsbD_fifteen (w : Word) : w.getLsbD 15 = decide (32768 ≤ w.toNat) := by
  rw [show w.getLsbD 15 = w.msb by simp [BitVec.msb_eq_getLsbD_last], BitVec.msb_eq_decide]

theorem toInt_word (w : Word) : w.toInt = if 32768 ≤ w.toNat then (w.toNat : Int) - 65536 else w.toNat := by
  rw [BitVec.toInt_eq_toNat_cond]
  have := w.isLt
  split <;> split <;> omega

theorem overflow8_add (a s : Byte) (c : Bool) :
    (a.getLsbD 7 == s.getLsbD 7 && (add8 a s c).getLsbD 7 != a.getLsbD 7) = overflow8 (a.toInt + s.toInt + c.toNat) := by
  have h := toNat_add8 a s c
  have ha := a.isLt
  have hs := s.isLt
  have hc : c.toNat ≤ 1 := by cases c <;> decide
  simp only [getLsbD_seven, toInt_byte, overflow8]
  generalize (add8 a s c).toNat = r at h ⊢
  rw [Bool.eq_iff_iff]
  simp only [Bool.and_eq_true, beq_iff_eq, bne_iff_ne, ne_eq, decide_eq_true_eq, decide_eq_decide]
  split <;> split <;> omega

theorem overflow8_sub (a s : Byte) (c : Bool) :
    (a.getLsbD 7 != s.getLsbD 7 && (sub8 a s c).getLsbD 7 != a.getLsbD 7) = overflow8 (a.toInt - s.toInt - c.toNat) := by
  have h := toNat_sub8 a s c
  have ha := a.isLt
  have hs := s.isLt
  have hc : c.toNat ≤ 1 := by cases c <;> decide
  simp only [getLsbD_seven, toInt_byte, overflow8]
  generalize (sub8 a s c).toNat = r at h ⊢
  rw [Bool.eq_iff_iff]
  simp only [Bool.and_eq_true, bne_iff_ne, ne_eq, decide_eq_true_eq, decide_eq_decide]
  split <;> split <;> omega

theorem overflow16_add (a s : Word) (c : Bool) :
    (a.getLsbD 15 == s.getLsbD 15 && (add16 a s c).getLsbD 15 != a.getLsbD 15) = overflow16 (a.toInt + s.toInt + c.toNat) := by
  have h := toNat_add16 a s c
  have ha := a.isLt
  have hs := s.isLt
  have hc : c.toNat ≤ 1 := by cases c <;> decide
  simp only [getLsbD_fifteen, toInt_word, overflow16]
  generalize (add16 a s c).toNat = r at h ⊢
  rw [Bool.eq_iff_iff]
  simp only [Bool.and_eq_true, beq_iff_eq, bne_iff_ne, ne_eq, decide_eq_true_eq, decide_eq_decide]
  split <;> split <;> omega

theorem overflow16_sub (a s : Word) (c : Bool) :
    (a.getLsbD 15 != s.getLsbD 15 && (sub16 a s c).getLsbD 15 != a.getLsbD 15) = overflow16 (a.toInt - s.toInt - c.toNat) := by
  have h := toNat_sub16 a s c
  have ha := a.isLt
  have hs := s.isLt
  have hc : c.toNat ≤ 1 := by cases c <;> decide
  simp only [getLsbD_fifteen, toInt_word, overflow16]
  generalize (sub16 a s c).toNat = r at h ⊢
  rw [Bool.eq_iff_iff]
  simp only [Bool.and_eq_true, bne_iff_ne, ne_eq, decide_eq_true_eq, decide_eq_decide]
  split <;> split <;> omega

/-! The arithmetic flags, as numbers and overflow of the exact sum -/

theorem flagsAre_addFlags (a s : Byte) (c : Bool) :
    FlagsAre (addFlags a s c) ((add8 a s c).getLsbD 7) (add8 a s c == 0) ((add8 a s c).getLsbD 5)
      (decide (a.toNat % 16 + s.toNat % 16 + c.toNat > 15)) ((add8 a s c).getLsbD 3)
      (overflow8 (a.toInt + s.toInt + c.toNat)) false (decide (a.toNat + s.toNat + c.toNat > 255)) := by
  rw [← overflow8_add]
  exact flagsAre_packF ..

theorem flagsAre_subFlagsYx (a s : Byte) (c : Bool) (yx : Byte) :
    FlagsAre (subFlagsYx a s c yx) ((sub8 a s c).getLsbD 7) (sub8 a s c == 0) (yx.getLsbD 5)
      (decide (a.toNat % 16 < s.toNat % 16 + c.toNat)) (yx.getLsbD 3)
      (overflow8 (a.toInt - s.toInt - c.toNat)) true (decide (a.toNat < s.toNat + c.toNat)) := by
  rw [← overflow8_sub]
  exact flagsAre_packF ..

theorem flagsAre_adcPairFlags (a s : Word) (c : Bool) :
    FlagsAre (adcPairFlags a s c) ((add16 a s c).getLsbD 15) (add16 a s c == 0) ((add16 a s c).getLsbD 13)
      (decide (a.toNat % 4096 + s.toNat % 4096 + c.toNat > 0xFFF)) ((add16 a s c).getLsbD 11)
      (overflow16 (a.toInt + s.toInt + c.toNat)) false (decide (a.toNat + s.toNat + c.toNat > 0xFFFF)) := by
  rw [← overflow16_add]
  exact flagsAre_packF ..

theorem flagsAre_sbcPairFlags (a s : Word) (c : Bool) :
    FlagsAre (sbcPairFlags a s c) ((sub16 a s c).getLsbD 15) (sub16 a s c == 0) ((sub16 a s c).getLsbD 13)
      (decide (a.toNat % 4096 < s.toNat % 4096 + c.toNat)) ((sub16 a s c).getLsbD 11)
      (overflow16 (a.toInt - s.toInt - c.toNat)) true (decide (a.toNat < s.toNat + c.toNat)) := by
  rw [← overflow16_sub]
  exact flagsAre_packF ..

/-! Bits of a shifted byte -/

theorem getLsbD_shiftIn0 (v : Byte) (b : Bool) : ∀ k < 7, (shiftIn0 v b).getLsbD (k + 1) = v.getLsbD k := by
  revert v b
  decide +kernel

theorem getLsbD_shiftIn0_zero (v : Byte) (b : Bool) : (shiftIn0 v b).getLsbD 0 = b := by
  revert v b
  decide +kernel

theorem getLsbD_shiftIn7 (v : Byte) (b : Bool) : ∀ k < 7, (shiftIn7 v b).getLsbD k = v.getLsbD (k + 1) := by
  revert v b
  decide +kernel

theorem getLsbD_shiftIn7_seven (v : Byte) (b : Bool) : (shiftIn7 v b).getLsbD 7 = b := by
  revert v b
  decide +kernel

/-- `rotResult` and `rotCarry` are the rotate bit by bit. -/
theorem rotated (op : RotOp) (v : Byte) (c : Bool) : Rotated op v c (rotResult op v c) (rotCarry op v) := by
  refine ⟨fun h => ?_, fun h => ?_⟩
  · cases op with
    | rlc => exact ⟨rfl, getLsbD_shiftIn0 _ _, getLsbD_shiftIn0_zero _ _⟩
    | rl => exact ⟨rfl, getLsbD_shiftIn0 _ _, getLsbD_shiftIn0_zero _ _⟩
    | sla => exact ⟨rfl, getLsbD_shiftIn0 _ _, getLsbD_shiftIn0_zero _ _⟩
    | sll => exact ⟨rfl, getLsbD_shiftIn0 _ _, getLsbD_shiftIn0_zero _ _⟩
    | rrc | rr | sra | srl => simp at h
  · cases op with
    | rrc => exact ⟨rfl, getLsbD_shiftIn7 _ _, getLsbD_shiftIn7_seven _ _⟩
    | rr => exact ⟨rfl, getLsbD_shiftIn7 _ _, getLsbD_shiftIn7_seven _ _⟩
    | sra => exact ⟨rfl, getLsbD_shiftIn7 _ _, getLsbD_shiftIn7_seven _ _⟩
    | srl => exact ⟨rfl, getLsbD_shiftIn7 _ _, getLsbD_shiftIn7_seven _ _⟩
    | rlc | rl | sla | sll => simp at h

theorem getLsbD_oneShift (n k : Nat) (hk : k < 8) : (1#8 <<< n).getLsbD k = decide (k = n) := by
  simp only [BitVec.getLsbD_shiftLeft, BitVec.getLsbD_one, hk, decide_true, Bool.true_and]
  by_cases h : k < n
  · simp [h]; omega
  · by_cases h2 : k = n
    · simp [h2]
    · simp [h, h2]; omega

theorem getLsbD_setBit (v : Byte) (b : BitVec 3) : ∀ k < 8, (setBit v b).getLsbD k = if k = b.toNat then true else v.getLsbD k := by
  intro k hk
  rw [setBit, BitVec.getLsbD_or, getLsbD_oneShift _ _ hk]
  by_cases h : k = b.toNat <;> simp [h]

theorem getLsbD_resBit (v : Byte) (b : BitVec 3) : ∀ k < 8, (resBit v b).getLsbD k = if k = b.toNat then false else v.getLsbD k := by
  intro k hk
  rw [resBit, BitVec.getLsbD_and, BitVec.getLsbD_not, getLsbD_oneShift _ _ hk]
  by_cases h : k = b.toNat <;> simp [h, hk]

/-- Drawn bits: those under the mask are the free byte's, the others stay (42_block R219, 45_rotate_bit R304). -/
theorem getLsbD_drawBits (f mask free : Byte) (k : Nat) :
    (drawBits f mask free).getLsbD k = if mask.getLsbD k then free.getLsbD k else f.getLsbD k := by
  unfold drawBits
  by_cases hk : k < 8
  · simp only [BitVec.getLsbD_or, BitVec.getLsbD_and, BitVec.getLsbD_not, hk, decide_true, Bool.true_and]
    cases mask.getLsbD k <;> simp
  · simp [BitVec.getLsbD_of_ge, Nat.le_of_not_lt hk]

end Sys2Proof.Machine
end

