-- ==== Sys2Proof/Laws/Operands.lean ====
section
/-! SUPPORT. What a write of a named operand keeps (30_encoding R113, R114, R124, R130). -/

namespace Sys2Proof.Machine

/-! setPair -/

@[simp] theorem State.alt_setPair (s : State) (p : Pair) (w : Word) : (s.setPair p w).alt = s.alt := by
  cases p <;> rfl

@[simp] theorem State.ix_setPair (s : State) (p : Pair) (w : Word) : (s.setPair p w).ix = s.ix := by
  cases p <;> rfl

@[simp] theorem State.iy_setPair (s : State) (p : Pair) (w : Word) : (s.setPair p w).iy = s.iy := by
  cases p <;> rfl

@[simp] theorem State.pc_setPair (s : State) (p : Pair) (w : Word) : (s.setPair p w).pc = s.pc := by
  cases p <;> rfl

@[simp] theorem State.i_setPair (s : State) (p : Pair) (w : Word) : (s.setPair p w).i = s.i := by
  cases p <;> rfl

@[simp] theorem State.r_setPair (s : State) (p : Pair) (w : Word) : (s.setPair p w).r = s.r := by
  cases p <;> rfl

@[simp] theorem State.ctl_setPair (s : State) (p : Pair) (w : Word) : (s.setPair p w).ctl = s.ctl := by
  cases p <;> rfl

@[simp] theorem State.store_setPair (s : State) (p : Pair) (w : Word) : (s.setPair p w).store = s.store := by
  cases p <;> rfl

@[simp] theorem State.cycles_setPair (s : State) (p : Pair) (w : Word) : (s.setPair p w).cycles = s.cycles := by
  cases p <;> rfl

@[simp] theorem State.plane_setPair (s : State) (p : Pair) (w : Word) : (s.setPair p w).plane = s.plane := by
  cases p <;> rfl

@[simp] theorem State.refused_setPair (s : State) (p : Pair) (w : Word) : (s.setPair p w).refused = s.refused := by
  cases p <;> rfl

@[simp] theorem State.params_setPair (s : State) (p : Pair) (w : Word) : (s.setPair p w).params = s.params := by
  cases p <;> rfl

@[simp] theorem State.io_setPair (s : State) (p : Pair) (w : Word) : (s.setPair p w).io = s.io := by
  cases p <;> rfl

@[simp] theorem State.draws_setPair (s : State) (p : Pair) (w : Word) : (s.setPair p w).draws = s.draws := by
  cases p <;> rfl

/-! setPairQ -/

@[simp] theorem State.alt_setPairQ (s : State) (q : PairQ) (w : Word) : (s.setPairQ q w).alt = s.alt := by
  cases q <;> rfl

@[simp] theorem State.ix_setPairQ (s : State) (q : PairQ) (w : Word) : (s.setPairQ q w).ix = s.ix := by
  cases q <;> rfl

@[simp] theorem State.iy_setPairQ (s : State) (q : PairQ) (w : Word) : (s.setPairQ q w).iy = s.iy := by
  cases q <;> rfl

@[simp] theorem State.sp_setPairQ (s : State) (q : PairQ) (w : Word) : (s.setPairQ q w).sp = s.sp := by
  cases q <;> rfl

@[simp] theorem State.pc_setPairQ (s : State) (q : PairQ) (w : Word) : (s.setPairQ q w).pc = s.pc := by
  cases q <;> rfl

@[simp] theorem State.i_setPairQ (s : State) (q : PairQ) (w : Word) : (s.setPairQ q w).i = s.i := by
  cases q <;> rfl

@[simp] theorem State.r_setPairQ (s : State) (q : PairQ) (w : Word) : (s.setPairQ q w).r = s.r := by
  cases q <;> rfl

@[simp] theorem State.ctl_setPairQ (s : State) (q : PairQ) (w : Word) : (s.setPairQ q w).ctl = s.ctl := by
  cases q <;> rfl

@[simp] theorem State.store_setPairQ (s : State) (q : PairQ) (w : Word) : (s.setPairQ q w).store = s.store := by
  cases q <;> rfl

@[simp] theorem State.cycles_setPairQ (s : State) (q : PairQ) (w : Word) : (s.setPairQ q w).cycles = s.cycles := by
  cases q <;> rfl

@[simp] theorem State.plane_setPairQ (s : State) (q : PairQ) (w : Word) : (s.setPairQ q w).plane = s.plane := by
  cases q <;> rfl

@[simp] theorem State.refused_setPairQ (s : State) (q : PairQ) (w : Word) : (s.setPairQ q w).refused = s.refused := by
  cases q <;> rfl

@[simp] theorem State.params_setPairQ (s : State) (q : PairQ) (w : Word) : (s.setPairQ q w).params = s.params := by
  cases q <;> rfl

@[simp] theorem State.io_setPairQ (s : State) (q : PairQ) (w : Word) : (s.setPairQ q w).io = s.io := by
  cases q <;> rfl

@[simp] theorem State.draws_setPairQ (s : State) (q : PairQ) (w : Word) : (s.setPairQ q w).draws = s.draws := by
  cases q <;> rfl

/-! setXy -/

@[simp] theorem State.main_setXy (s : State) (x : Idx) (w : Word) : (s.setXy x w).main = s.main := by
  cases x <;> rfl

@[simp] theorem State.alt_setXy (s : State) (x : Idx) (w : Word) : (s.setXy x w).alt = s.alt := by
  cases x <;> rfl

@[simp] theorem State.sp_setXy (s : State) (x : Idx) (w : Word) : (s.setXy x w).sp = s.sp := by
  cases x <;> rfl

@[simp] theorem State.pc_setXy (s : State) (x : Idx) (w : Word) : (s.setXy x w).pc = s.pc := by
  cases x <;> rfl

@[simp] theorem State.i_setXy (s : State) (x : Idx) (w : Word) : (s.setXy x w).i = s.i := by
  cases x <;> rfl

@[simp] theorem State.r_setXy (s : State) (x : Idx) (w : Word) : (s.setXy x w).r = s.r := by
  cases x <;> rfl

@[simp] theorem State.ctl_setXy (s : State) (x : Idx) (w : Word) : (s.setXy x w).ctl = s.ctl := by
  cases x <;> rfl

@[simp] theorem State.store_setXy (s : State) (x : Idx) (w : Word) : (s.setXy x w).store = s.store := by
  cases x <;> rfl

@[simp] theorem State.cycles_setXy (s : State) (x : Idx) (w : Word) : (s.setXy x w).cycles = s.cycles := by
  cases x <;> rfl

@[simp] theorem State.plane_setXy (s : State) (x : Idx) (w : Word) : (s.setXy x w).plane = s.plane := by
  cases x <;> rfl

@[simp] theorem State.refused_setXy (s : State) (x : Idx) (w : Word) : (s.setXy x w).refused = s.refused := by
  cases x <;> rfl

@[simp] theorem State.params_setXy (s : State) (x : Idx) (w : Word) : (s.setXy x w).params = s.params := by
  cases x <;> rfl

@[simp] theorem State.io_setXy (s : State) (x : Idx) (w : Word) : (s.setXy x w).io = s.io := by
  cases x <;> rfl

@[simp] theorem State.draws_setXy (s : State) (x : Idx) (w : Word) : (s.setXy x w).draws = s.draws := by
  cases x <;> rfl

/-! setHalf -/

@[simp] theorem State.main_setHalf (s : State) (x : Idx) (h : Half) (v : Byte) : (s.setHalf x h v).main = s.main := by
  cases x <;> cases h <;> rfl

@[simp] theorem State.alt_setHalf (s : State) (x : Idx) (h : Half) (v : Byte) : (s.setHalf x h v).alt = s.alt := by
  cases x <;> cases h <;> rfl

@[simp] theorem State.sp_setHalf (s : State) (x : Idx) (h : Half) (v : Byte) : (s.setHalf x h v).sp = s.sp := by
  cases x <;> cases h <;> rfl

@[simp] theorem State.pc_setHalf (s : State) (x : Idx) (h : Half) (v : Byte) : (s.setHalf x h v).pc = s.pc := by
  cases x <;> cases h <;> rfl

@[simp] theorem State.i_setHalf (s : State) (x : Idx) (h : Half) (v : Byte) : (s.setHalf x h v).i = s.i := by
  cases x <;> cases h <;> rfl

@[simp] theorem State.r_setHalf (s : State) (x : Idx) (h : Half) (v : Byte) : (s.setHalf x h v).r = s.r := by
  cases x <;> cases h <;> rfl

@[simp] theorem State.ctl_setHalf (s : State) (x : Idx) (h : Half) (v : Byte) : (s.setHalf x h v).ctl = s.ctl := by
  cases x <;> cases h <;> rfl

@[simp] theorem State.store_setHalf (s : State) (x : Idx) (h : Half) (v : Byte) : (s.setHalf x h v).store = s.store := by
  cases x <;> cases h <;> rfl

@[simp] theorem State.cycles_setHalf (s : State) (x : Idx) (h : Half) (v : Byte) : (s.setHalf x h v).cycles = s.cycles := by
  cases x <;> cases h <;> rfl

@[simp] theorem State.plane_setHalf (s : State) (x : Idx) (h : Half) (v : Byte) : (s.setHalf x h v).plane = s.plane := by
  cases x <;> cases h <;> rfl

@[simp] theorem State.refused_setHalf (s : State) (x : Idx) (h : Half) (v : Byte) : (s.setHalf x h v).refused = s.refused := by
  cases x <;> cases h <;> rfl

@[simp] theorem State.params_setHalf (s : State) (x : Idx) (h : Half) (v : Byte) : (s.setHalf x h v).params = s.params := by
  cases x <;> cases h <;> rfl

@[simp] theorem State.io_setHalf (s : State) (x : Idx) (h : Half) (v : Byte) : (s.setHalf x h v).io = s.io := by
  cases x <;> cases h <;> rfl

@[simp] theorem State.draws_setHalf (s : State) (x : Idx) (h : Half) (v : Byte) : (s.setHalf x h v).draws = s.draws := by
  cases x <;> cases h <;> rfl

/-! setRegX -/

@[simp] theorem State.alt_setRegX (s : State) (x : Idx) (k : RegX) (v : Byte) : (s.setRegX x k v).alt = s.alt := by
  cases x <;> cases k <;> rfl

@[simp] theorem State.sp_setRegX (s : State) (x : Idx) (k : RegX) (v : Byte) : (s.setRegX x k v).sp = s.sp := by
  cases x <;> cases k <;> rfl

@[simp] theorem State.pc_setRegX (s : State) (x : Idx) (k : RegX) (v : Byte) : (s.setRegX x k v).pc = s.pc := by
  cases x <;> cases k <;> rfl

@[simp] theorem State.i_setRegX (s : State) (x : Idx) (k : RegX) (v : Byte) : (s.setRegX x k v).i = s.i := by
  cases x <;> cases k <;> rfl

@[simp] theorem State.r_setRegX (s : State) (x : Idx) (k : RegX) (v : Byte) : (s.setRegX x k v).r = s.r := by
  cases x <;> cases k <;> rfl

@[simp] theorem State.ctl_setRegX (s : State) (x : Idx) (k : RegX) (v : Byte) : (s.setRegX x k v).ctl = s.ctl := by
  cases x <;> cases k <;> rfl

@[simp] theorem State.store_setRegX (s : State) (x : Idx) (k : RegX) (v : Byte) : (s.setRegX x k v).store = s.store := by
  cases x <;> cases k <;> rfl

@[simp] theorem State.cycles_setRegX (s : State) (x : Idx) (k : RegX) (v : Byte) : (s.setRegX x k v).cycles = s.cycles := by
  cases x <;> cases k <;> rfl

@[simp] theorem State.plane_setRegX (s : State) (x : Idx) (k : RegX) (v : Byte) : (s.setRegX x k v).plane = s.plane := by
  cases x <;> cases k <;> rfl

@[simp] theorem State.refused_setRegX (s : State) (x : Idx) (k : RegX) (v : Byte) : (s.setRegX x k v).refused = s.refused := by
  cases x <;> cases k <;> rfl

@[simp] theorem State.params_setRegX (s : State) (x : Idx) (k : RegX) (v : Byte) : (s.setRegX x k v).params = s.params := by
  cases x <;> cases k <;> rfl

@[simp] theorem State.io_setRegX (s : State) (x : Idx) (k : RegX) (v : Byte) : (s.setRegX x k v).io = s.io := by
  cases x <;> cases k <;> rfl

@[simp] theorem State.draws_setRegX (s : State) (x : Idx) (k : RegX) (v : Byte) : (s.setRegX x k v).draws = s.draws := by
  cases x <;> cases k <;> rfl

/-! copied -/

@[simp] theorem State.alt_copied (s : State) (c : Option Reg8) (v : Byte) : (s.copied c v).alt = s.alt := by
  cases c <;> rfl

@[simp] theorem State.ix_copied (s : State) (c : Option Reg8) (v : Byte) : (s.copied c v).ix = s.ix := by
  cases c <;> rfl

@[simp] theorem State.iy_copied (s : State) (c : Option Reg8) (v : Byte) : (s.copied c v).iy = s.iy := by
  cases c <;> rfl

@[simp] theorem State.sp_copied (s : State) (c : Option Reg8) (v : Byte) : (s.copied c v).sp = s.sp := by
  cases c <;> rfl

@[simp] theorem State.pc_copied (s : State) (c : Option Reg8) (v : Byte) : (s.copied c v).pc = s.pc := by
  cases c <;> rfl

@[simp] theorem State.i_copied (s : State) (c : Option Reg8) (v : Byte) : (s.copied c v).i = s.i := by
  cases c <;> rfl

@[simp] theorem State.r_copied (s : State) (c : Option Reg8) (v : Byte) : (s.copied c v).r = s.r := by
  cases c <;> rfl

@[simp] theorem State.ctl_copied (s : State) (c : Option Reg8) (v : Byte) : (s.copied c v).ctl = s.ctl := by
  cases c <;> rfl

@[simp] theorem State.store_copied (s : State) (c : Option Reg8) (v : Byte) : (s.copied c v).store = s.store := by
  cases c <;> rfl

@[simp] theorem State.cycles_copied (s : State) (c : Option Reg8) (v : Byte) : (s.copied c v).cycles = s.cycles := by
  cases c <;> rfl

@[simp] theorem State.plane_copied (s : State) (c : Option Reg8) (v : Byte) : (s.copied c v).plane = s.plane := by
  cases c <;> rfl

@[simp] theorem State.refused_copied (s : State) (c : Option Reg8) (v : Byte) : (s.copied c v).refused = s.refused := by
  cases c <;> rfl

@[simp] theorem State.params_copied (s : State) (c : Option Reg8) (v : Byte) : (s.copied c v).params = s.params := by
  cases c <;> rfl

@[simp] theorem State.io_copied (s : State) (c : Option Reg8) (v : Byte) : (s.copied c v).io = s.io := by
  cases c <;> rfl

@[simp] theorem State.draws_copied (s : State) (c : Option Reg8) (v : Byte) : (s.copied c v).draws = s.draws := by
  cases c <;> rfl

/-! F stays where a register is written -/

@[simp] theorem Bank.f_set (k : Bank) (r : Reg8) (v : Byte) : (k.set r v).f = k.f := by
  cases r <;> rfl

@[simp] theorem State.f_setPair (s : State) (p : Pair) (w : Word) : (s.setPair p w).main.f = s.main.f := by
  cases p <;> rfl

theorem State.f_setPairQ (s : State) (q : PairQ) (w : Word) (h : q ≠ .af) : (s.setPairQ q w).main.f = s.main.f := by
  cases q <;> first | rfl | exact absurd rfl h

@[simp] theorem State.f_setRegX (s : State) (x : Idx) (k : RegX) (v : Byte) : (s.setRegX x k v).main.f = s.main.f := by
  cases x <;> cases k <;> rfl

@[simp] theorem State.f_copied (s : State) (c : Option Reg8) (v : Byte) : (s.copied c v).main.f = s.main.f := by
  cases c with
  | none => rfl
  | some r => exact Bank.f_set _ r v

theorem State.sp_setPair (s : State) (p : Pair) (w : Word) (h : p ≠ .sp) : (s.setPair p w).sp = s.sp := by
  cases p <;> first | rfl | exact absurd rfl h

@[simp] theorem State.iy_setXy_ix (s : State) (w : Word) : (s.setXy .ix w).iy = s.iy := rfl

@[simp] theorem State.ix_setXy_iy (s : State) (w : Word) : (s.setXy .iy w).ix = s.ix := rfl

@[simp] theorem State.iy_setHalf_ix (s : State) (h : Half) (v : Byte) : (s.setHalf .ix h v).iy = s.iy := by
  cases h <;> rfl

@[simp] theorem State.ix_setHalf_iy (s : State) (h : Half) (v : Byte) : (s.setHalf .iy h v).ix = s.ix := by
  cases h <;> rfl

@[simp] theorem State.iy_setRegX_ix (s : State) (k : RegX) (v : Byte) : (s.setRegX .ix k v).iy = s.iy := by
  cases k <;> rfl

@[simp] theorem State.ix_setRegX_iy (s : State) (k : RegX) (v : Byte) : (s.setRegX .iy k v).ix = s.ix := by
  cases k <;> rfl

end Sys2Proof.Machine
end

