-- ==== Sys2Proof/Laws/Meanings.lean ====
section
/-! SUPPORT. What the operations that several meanings share can do (42_block, 43_alu8, 45_rotate_bit, 46_control_transfer). -/

namespace Sys2Proof.Machine

/-! Control transfer -/

/-- A call that completes pushed the pc and went to the target. -/
theorem State.call_eq_next {s t : State} {w : Word} {n : Nat} :
    s.call w n = .next t ↔
      (s.store.mapper.refuses (s.sp - 1) (hi s.pc) || s.store.mapper.refuses (s.sp - 2) (lo s.pc)) = false ∧
        ((s.pushed s.pc).setPc w).spend n = t := by
  unfold State.call
  simp only [andThen_eq_next, done_eq_next, State.push16_eq_next, and_assoc, exists_and_left, exists_eq_left']

/-! Read-modify-write -/

/-- A write back that completes wrote the byte and made the copy. -/
theorem State.writeBack_eq_next {s t : State} {a : Word} {c : Option Reg8} {v : Byte} :
    s.writeBack a c v = .next t ↔ s.store.mapper.refuses a v = false ∧ (s.wrote a v).copied c v = t := by
  unfold State.writeBack
  simp only [andThen_eq_next, State.write8_eq_next]
  cases c <;> simp [and_assoc] <;> exact fun _ => Iff.rfl

theorem State.rotAt_eq_next {s t : State} {op : RotOp} {a : Word} {c : Option Reg8} {n : Nat} :
    s.rotAt op a c n = .next t ↔
      let v := rotResult op (s.read8 a) (flagC s.main.f)
      s.store.mapper.refuses a v = false ∧
        (((s.wrote a v).copied c v).setF (rotFlags op (s.read8 a) (flagC s.main.f))).spend n = t := by
  unfold State.rotAt
  simp only [andThen_eq_next, done_eq_next, State.writeBack_eq_next, and_assoc, exists_and_left, exists_eq_left']

theorem State.modifyAt_eq_next {s t : State} {f : Byte → Byte} {a : Word} {c : Option Reg8} {n : Nat} :
    s.modifyAt f a c n = .next t ↔
      s.store.mapper.refuses a (f (s.read8 a)) = false ∧
        ((s.wrote a (f (s.read8 a))).copied c (f (s.read8 a))).spend n = t := by
  unfold State.modifyAt
  simp only [andThen_eq_next, done_eq_next, State.writeBack_eq_next, and_assoc, exists_and_left, exists_eq_left']

theorem State.incAt_eq_next {s t : State} {a : Word} {n : Nat} :
    s.incAt a n = .next t ↔
      s.store.mapper.refuses a (s.read8 a + 1) = false ∧
        ((s.wrote a (s.read8 a + 1)).setF (incFlags s.main.f (s.read8 a))).spend n = t := by
  unfold State.incAt
  simp only [andThen_eq_next, done_eq_next, State.write8_eq_next, and_assoc, exists_and_left, exists_eq_left']

theorem State.decAt_eq_next {s t : State} {a : Word} {n : Nat} :
    s.decAt a n = .next t ↔
      s.store.mapper.refuses a (s.read8 a - 1) = false ∧
        ((s.wrote a (s.read8 a - 1)).setF (decFlags s.main.f (s.read8 a))).spend n = t := by
  unfold State.decAt
  simp only [andThen_eq_next, done_eq_next, State.write8_eq_next, and_assoc, exists_and_left, exists_eq_left']

/-! Block instructions -/

/-- An iteration ends in one of two ways (42_block R214, R219). -/
theorem endIteration_eq_next {again : Bool} {mask : Byte} {s t : State} :
    endIteration again mask s = .next t ↔
      (again = true ∧ (((s.setPc (s.pc - 2)).setF (drawBits s.main.f mask s.freeByte)).drawn).spend 21 = t) ∨
        (again = false ∧ s.spend 16 = t) := by
  cases again <;> simp [endIteration, done]

theorem getLsbD_maskYx (k : Nat) : maskYx.getLsbD k = decide (k = 3 ∨ k = 5) := by
  have h : ∀ k < 8, maskYx.getLsbD k = decide (k = 3 ∨ k = 5) := by decide
  by_cases hk : k < 8
  · exact h k hk
  · rw [BitVec.getLsbD_of_ge _ _ (by omega)]
    simp
    omega

theorem getLsbD_maskYxhp (k : Nat) : maskYxhp.getLsbD k = decide (2 ≤ k ∧ k ≤ 5) := by
  have h : ∀ k < 8, maskYxhp.getLsbD k = decide (2 ≤ k ∧ k ≤ 5) := by decide
  by_cases hk : k < 8
  · exact h k hk
  · rw [BitVec.getLsbD_of_ge _ _ (by omega)]
    simp
    omega

/-! A choice between two meanings -/

theorem ite_eq_next {c : Prop} [Decidable c] {x y : Result} {t : State} :
    (if c then x else y) = .next t ↔ (c ∧ x = .next t) ∨ (¬ c ∧ y = .next t) := by
  split <;> simp_all

end Sys2Proof.Machine
end

