-- ==== Sys2Proof/Laws/Step.lean ====
section
/-! SUPPORT. What an engine step, the commands and a tick can do (60_exceptions R402, R420, R450, R451, R460). -/

namespace Sys2Proof.Machine

/-! The engine step -/

theorem State.engineStep_of_refused {s : State} (h : s.refused = true) : s.engineStep = .next s := by
  simp [State.engineStep, h]

theorem State.engineStep_of_next {s t : State} (h : s.refused = false) (ha : s.unmarked.begin.act s.kind = .next t) :
    s.engineStep = .next t := by
  simp [State.engineStep, h, ha, settle]

/-- A refusal the spec names leaves the state with REFUSED set (R402). -/
theorem State.engineStep_of_refusal {s : State} {e : Refusal} (h : s.refused = false)
    (ha : s.unmarked.begin.act s.kind = .refused e) (he : e.isSpecified = true) :
    s.engineStep = .next (s.unmarked.setRefused true) := by
  simp [State.engineStep, h, ha, settle, he]

/-- Everything an engine step that answers can do. -/
theorem State.engineStep_eq_next {s t : State} :
    s.engineStep = .next t ↔
      (s.refused = true ∧ s = t) ∨
      (s.refused = false ∧ s.unmarked.begin.act s.kind = .next t) ∨
      (s.refused = false ∧ ∃ e, s.unmarked.begin.act s.kind = .refused e ∧ e.isSpecified = true ∧
        s.unmarked.setRefused true = t) := by
  cases h : s.refused with
  | true => simp [State.engineStep, h]
  | false =>
    simp only [State.engineStep, h, Bool.false_eq_true, if_false, false_and, true_and, false_or]
    cases ha : s.unmarked.begin.act s.kind with
    | next u => simp [settle]
    | fault e => simp [settle]
    | refused e => cases he : e.isSpecified <;> simp [settle, he]

/-! Commands -/

/-- A command changes the registry and the debug control state only (R450). -/
theorem State.command_eq (s : State) (c : Command) : s.command c = { s with plane := s.commanded c } := rfl

theorem State.applyCommands_eq (cs : List Command) (s : State) :
    ∃ g, State.applyCommands cs s = { s with plane := g } := by
  induction cs generalizing s with
  | nil => exact ⟨_, rfl⟩
  | cons c cs ih =>
    cases c <;> first | exact ⟨_, rfl⟩ | (simp only [State.applyCommands]; obtain ⟨g, h⟩ := ih (s.command _); exact ⟨g, h⟩)

/-- Dispatching changes the registry and the debug control state only. -/
theorem State.dispatch_eq (s : State) : s.dispatch = { s with plane := s.dispatch.plane } := by
  unfold State.dispatch
  obtain ⟨g, h⟩ := State.applyCommands_eq s.plane.cmdQ s
  rw [h]

theorem State.dispatch_of_empty {s : State} (h : s.plane.cmdQ = []) : s.dispatch = s := by
  unfold State.dispatch
  rw [h]
  unfold State.applyCommands State.setQueue State.setDebug
  rw [← h]

/-! The tick -/

/-- What follows the step of a tick changes the debug control state only. -/
theorem State.afterStep_eq (b : Bool) (s : State) : s.afterStep b = { s with plane := (s.afterStep b).plane } := by
  unfold State.afterStep
  cases s.plane.msgHit <;> cases b <;> rfl

theorem State.stepInTick_eq_next {s t : State} :
    s.stepInTick = .next t ↔ ∃ u, s.engineStep = .next u ∧ u.afterStep (s.plane.execState == .singleStepPending) = t := by
  unfold State.stepInTick
  rw [andThen_eq_next]
  simp

/-- Everything the part of a tick behind its commands can do (R440, R443, R460). -/
theorem State.runTick_eq_next {s t : State} :
    s.runTick = .next t ↔
      ((s.refused = true ∨ s.plane.execState = .held) ∧ s = t) ∨
      (s.refused = false ∧ s.plane.execState ≠ .held ∧
        ((s.kind = .idle ∧ s.stepInTick = .next t) ∨
         (s.kind ≠ .idle ∧ s.plane.skipBp = true ∧ (s.setDebug { s.plane with skipBp := false }).stepInTick = .next t) ∨
         (s.kind ≠ .idle ∧ s.plane.skipBp = false ∧ s.plane.checkPc s.pc = true ∧ s.holdWith (.breakpointHit s.pc) = t) ∨
         (s.kind ≠ .idle ∧ s.plane.skipBp = false ∧ s.plane.checkPc s.pc = false ∧ s.stepInTick = .next t))) := by
  unfold State.runTick
  by_cases h1 : s.refused = true
  · simp [h1]
  · by_cases h2 : s.plane.execState = .held
    · simp [h2]
    · have h1' : s.refused = false := by simpa using h1
      cases h3 : s.plane.skipBp <;> by_cases h4 : s.kind = .idle <;> cases h5 : s.plane.checkPc s.pc <;>
        simp [h1', h2, h4]

end Sys2Proof.Machine
end

