-- ==== Sys2Proof/Tests/Slice0.lean ====
section
/-! SUPPORT. The model's own tests: the checks of WellFormed with a term each refuses, words written out from the spec's encodings, one
step on a small state for the vectors of 95_test_vectors, and for every statement with hypotheses a state and operands that meet them. -/

namespace Sys2Proof.Tests

open Sys2Proof Sys2Proof.Machine

/-! Small states -/

/-- Put bytes where addresses lead, as the vectors' `mem[a..]` does. -/
def poke : List (Word × List Byte) → State → State
  | [], s => s
  | (a, bs) :: rest, s => poke rest (s.setStore (s.store.placeAll a bs))

/-- The start state of 95_test_vectors with bytes at an address and PC there. -/
def start (pc : Word) (bytes : List Byte) : State := poke [(pc, bytes)] (State.reset.setPc pc)

/-- The answer is a next state with a property. -/
def ends (x : Result) (p : State → Bool) : Bool :=
  match x with
  | .next t => p t
  | _ => false

/-- The answer is the refusal of a mapper control write. -/
def isRefused (x : Result) : Bool :=
  match x with
  | .refused .unmodelledMapperControl => true
  | _ => false

/-- Byte writes in order, each not refused. -/
def writes : List (Word × Byte) → State → Result
  | [], s => .next s
  | (a, v) :: rest, s => andThen (s.write8 a v) (writes rest)

/-- The Standard cartridge of the V20 vectors with 8 pages; of each page only the bytes a test reads are listed. -/
def standardCart : State :=
  { State.reset with
    store := { rom := [(0x0123, 0xA0), (0x4000, 0x01), (0x4123, 0xA1), (0x8000, 0x02), (0x8123, 0xA2), (0xC400, 0x03), (0xFFFF, 0x03),
                 (0x14000, 0x05), (0x14123, 0xA5)]
               romLen := 131072, ram := [], ramSize := 8192, cart := []
               mapper := Mapper.initial .standard } }

/-- The CodeMasters cartridge of the V20 vectors with 4 pages, likewise. -/
def codeMastersCart : State :=
  { State.reset with
    store := { rom := [(0x0123, 0xA0), (0x4000, 0x01), (0x4001, 0x01), (0x8000, 0x02), (0x8123, 0xA2), (0xC000, 0x03)]
               romLen := 65536, ram := [], ramSize := 8192, cart := []
               mapper := Mapper.initial .codeMasters } }

/-! WellFormed: for each check a term it refuses, and one beside it that it lets through -/

/-- JR has no condition PO, PE, P or M (30_encoding R116). -/
theorem test_wf_jr : (Instr.jrCc .po 0).wellFormed = false ∧ (Instr.jrCc .pe 0).wellFormed = false ∧
    (Instr.jrCc .p 0).wellFormed = false ∧ (Instr.jrCc .m 0).wellFormed = false ∧ (Instr.jrCc .c 0).wellFormed = true := by decide

/-- A prefix row is no whole instruction (log entry 15). -/
theorem test_wf_prefix_rows : (Instr.prefixCb 0).wellFormed = false ∧ (Instr.prefixDd 0 0 0).wellFormed = false ∧
    (Instr.prefixEd 0 0 0).wellFormed = false ∧ (Instr.prefixFd 0 0 0).wellFormed = false ∧
    (Instr.prefixDdCb 0 0).wellFormed = false ∧ (Instr.prefixFdCb 0 0).wellFormed = false := by decide

/-- The duplicates keep to their own opcode bytes: ED 4D is RETI and no RETN, the IM rows do not overlap (R120). -/
theorem test_wf_duplicates : (Instr.retn 1).wellFormed = false ∧ (Instr.retn 0).wellFormed = true ∧
    (Instr.im0 2).wellFormed = false ∧ (Instr.im0 5).wellFormed = true ∧ (Instr.im1 0).wellFormed = false ∧
    (Instr.im1 6).wellFormed = true ∧ (Instr.im2 2).wellFormed = false ∧ (Instr.im2 7).wellFormed = true := by decide

/-- The undefined opcodes ED 80 to ED BF are those that are no block instruction: ED A0 is LDI, ED A4 is undefined (R120). -/
theorem test_wf_undefined_ed : (Instr.nopEd2 0x20).wellFormed = false ∧ (Instr.nopEd2 0x3B).wellFormed = false ∧
    (Instr.nopEd2 0x24).wellFormed = true ∧ (Instr.nopEd2 0x00).wellFormed = true := by decide

/-- LD r,r' under a prefix names a half of the index register (R124). -/
theorem test_wf_index_load : (Instr.ldRRIx .b .c).wellFormed = false ∧ (Instr.ldRRIy .b .c).wellFormed = false ∧
    (Instr.ldRRIx .xh .c).wellFormed = true ∧ (Instr.ldRRIy .b .xl).wellFormed = true := by decide

/-- A prefix is ignored only before an instruction that names none of H, L, HL, and before a well-formed one (R123, R125). -/
theorem test_wf_ignored : (Instr.ignoredDd (.ldRN .h 0)).wellFormed = false ∧ (Instr.ignoredDd .jpHl).wellFormed = false ∧
    (Instr.ignoredFd (.addHlSs .bc)).wellFormed = false ∧ (Instr.ignoredDd (.jrCc .po 0)).wellFormed = false ∧
    (Instr.ignoredDd (.ignoredDd .nop)).wellFormed = false ∧ (Instr.ignoredFd .ldir).wellFormed = false ∧
    (Instr.ignoredFd (.pushQq .hl)).wellFormed = false ∧ (Instr.ignoredDd .exDeHl).wellFormed = true ∧
    (Instr.ignoredFd .nop).wellFormed = true := by decide

/-- No bytes decode to an ill-formed term, so it has no effect: the meaning refuses it by name (log entry 16). -/
theorem test_ill_formed_refused : exec (.ignoredDd .jpHl) State.reset = .refused .illFormed ∧
    exec (.ignoredFd (.prefixCb 0)) State.reset = .refused .illFormed := ⟨rfl, rfl⟩

/-! Words written out from the encodings of 30_encoding, at least one for every constructor but the prefix rows (R118 to R127) -/

/-- Words of the base table (30_encoding R118). -/
theorem test_decode_base_1 :
    decode4 0x00 0 0 0 = .nop ∧ decode4 0x08 0 0 0 = .exAfAf ∧ decode4 0x10 0xFE 0 0 = .djnz 0xFE ∧ decode4 0x18 0x7F 0 0 = .jr 0x7F ∧
    decode4 0x38 0x10 0 0 = .jrCc .c 0x10 ∧ decode4 0x20 0x80 0 0 = .jrCc .nz 0x80 ∧ decode4 0x01 0x34 0x12 0 = .ldDdNn .bc 0x1234 ∧
    decode4 0x31 0xF0 0xDF 0 = .ldDdNn .sp 0xDFF0 ∧ decode4 0x19 0 0 0 = .addHlSs .de ∧ decode4 0x02 0 0 0 = .ldAtBcA ∧
    decode4 0x12 0 0 0 = .ldAtDeA ∧ decode4 0x22 0x00 0xC1 0 = .ldAtNnHl 0xC100 ∧ decode4 0x32 0xFF 0xDF 0 = .ldAtNnA 0xDFFF ∧
    decode4 0x0A 0 0 0 = .ldAAtBc ∧ decode4 0x1A 0 0 0 = .ldAAtDe ∧ decode4 0x2A 0x00 0xC1 0 = .ldHlAtNn 0xC100 ∧
    decode4 0x3A 0x00 0xC3 0 = .ldAAtNn 0xC300 := by decide

/-- Words of the base table (30_encoding R118). -/
theorem test_decode_base_2 :
    decode4 0x13 0 0 0 = .incSs .de ∧ decode4 0x3B 0 0 0 = .decSs .sp ∧ decode4 0x2C 0 0 0 = .incR .l ∧ decode4 0x34 0 0 0 = .incAtHl ∧
    decode4 0x15 0 0 0 = .decR .d ∧ decode4 0x35 0 0 0 = .decAtHl ∧ decode4 0x26 0x5A 0 0 = .ldRN .h 0x5A ∧
    decode4 0x36 0x5A 0 0 = .ldAtHlN 0x5A ∧ decode4 0x07 0 0 0 = .rlca ∧ decode4 0x0F 0 0 0 = .rrca ∧ decode4 0x17 0 0 0 = .rla ∧
    decode4 0x1F 0 0 0 = .rra ∧ decode4 0x27 0 0 0 = .daa ∧ decode4 0x2F 0 0 0 = .cpl ∧ decode4 0x37 0 0 0 = .scf ∧ decode4 0x3F 0 0 0 = .ccf ∧
    decode4 0x6F 0 0 0 = .ldRR .l .a := by decide

/-- Words of the base table (30_encoding R118). -/
theorem test_decode_base_3 :
    decode4 0x7E 0 0 0 = .ldRAtHl .a ∧ decode4 0x74 0 0 0 = .ldAtHlR .h ∧ decode4 0x76 0 0 0 = .halt ∧ decode4 0x80 0 0 0 = .addR .b ∧
    decode4 0x86 0 0 0 = .addAtHl ∧ decode4 0x8F 0 0 0 = .adcR .a ∧ decode4 0x8E 0 0 0 = .adcAtHl ∧ decode4 0x91 0 0 0 = .subR .c ∧
    decode4 0x96 0 0 0 = .subAtHl ∧ decode4 0x9A 0 0 0 = .sbcR .d ∧ decode4 0x9E 0 0 0 = .sbcAtHl ∧ decode4 0xA3 0 0 0 = .andR .e ∧
    decode4 0xA6 0 0 0 = .andAtHl ∧ decode4 0xAC 0 0 0 = .xorR .h ∧ decode4 0xAE 0 0 0 = .xorAtHl ∧ decode4 0xB5 0 0 0 = .orR .l ∧
    decode4 0xB6 0 0 0 = .orAtHl := by decide

/-- Words of the base table (30_encoding R118). -/
theorem test_decode_base_4 :
    decode4 0xBF 0 0 0 = .cpR .a ∧ decode4 0xBE 0 0 0 = .cpAtHl ∧ decode4 0xC6 0x01 0 0 = .addN 1 ∧ decode4 0xCE 0x02 0 0 = .adcN 2 ∧
    decode4 0xD6 0x03 0 0 = .subN 3 ∧ decode4 0xDE 0x04 0 0 = .sbcN 4 ∧ decode4 0xE6 0x05 0 0 = .andN 5 ∧ decode4 0xEE 0x06 0 0 = .xorN 6 ∧
    decode4 0xF6 0x07 0 0 = .orN 7 ∧ decode4 0xFE 0x08 0 0 = .cpN 8 ∧ decode4 0xD8 0 0 0 = .retCc .c ∧ decode4 0xF8 0 0 0 = .retCc .m ∧
    decode4 0xF1 0 0 0 = .popQq .af ∧ decode4 0xC9 0 0 0 = .ret ∧ decode4 0xD9 0 0 0 = .exx ∧ decode4 0xE9 0 0 0 = .jpHl ∧
    decode4 0xF9 0 0 0 = .ldSpHl := by decide

/-- Words of the base table (30_encoding R118). -/
theorem test_decode_base_5 :
    decode4 0xE2 0x00 0x20 0 = .jpCcNn .po 0x2000 ∧ decode4 0xC3 0x00 0x80 0 = .jpNn 0x8000 ∧ decode4 0xD3 0x7F 0 0 = .outNA 0x7F ∧
    decode4 0xDB 0xDC 0 0 = .inAN 0xDC ∧ decode4 0xE3 0 0 0 = .exAtSpHl ∧ decode4 0xEB 0 0 0 = .exDeHl ∧ decode4 0xF3 0 0 0 = .di ∧
    decode4 0xFB 0 0 0 = .ei ∧ decode4 0xEC 0x00 0x20 0 = .callCcNn .pe 0x2000 ∧ decode4 0xC5 0 0 0 = .pushQq .bc ∧
    decode4 0xCD 0x00 0x10 0 = .callNn 0x1000 ∧ decode4 0xD7 0 0 0 = .rst 2 ∧ decode4 0xFF 0 0 0 = .rst 7 := by decide

/-- Words of the CB table (R119). -/
theorem test_decode_cb_1 :
    decode4 0xCB 0x00 0 0 = .rlcR .b ∧ decode4 0xCB 0x06 0 0 = .rlcAtHl ∧ decode4 0xCB 0x09 0 0 = .rrcR .c ∧ decode4 0xCB 0x0E 0 0 = .rrcAtHl ∧
    decode4 0xCB 0x12 0 0 = .rlR .d ∧ decode4 0xCB 0x16 0 0 = .rlAtHl ∧ decode4 0xCB 0x1B 0 0 = .rrR .e ∧ decode4 0xCB 0x1E 0 0 = .rrAtHl ∧
    decode4 0xCB 0x24 0 0 = .slaR .h ∧ decode4 0xCB 0x26 0 0 = .slaAtHl ∧ decode4 0xCB 0x2D 0 0 = .sraR .l := by decide

/-- Words of the CB table (R119). -/
theorem test_decode_cb_2 :
    decode4 0xCB 0x2E 0 0 = .sraAtHl ∧ decode4 0xCB 0x37 0 0 = .sllR .a ∧ decode4 0xCB 0x36 0 0 = .sllAtHl ∧ decode4 0xCB 0x3F 0 0 = .srlR .a ∧
    decode4 0xCB 0x3E 0 0 = .srlAtHl ∧ decode4 0xCB 0x68 0 0 = .bitR 5 .b ∧ decode4 0xCB 0x7E 0 0 = .bitAtHl 7 ∧
    decode4 0xCB 0x87 0 0 = .resR 0 .a ∧ decode4 0xCB 0x96 0 0 = .resAtHl 2 ∧ decode4 0xCB 0xFF 0 0 = .setR 7 .a ∧
    decode4 0xCB 0xCE 0 0 = .setAtHl 1 := by decide

/-- Words of the ED table (R120). -/
theorem test_decode_ed_1 :
    decode4 0xED 0x78 0 0 = .inR .a ∧ decode4 0xED 0x70 0 0 = .inFlags ∧ decode4 0xED 0x59 0 0 = .outR .e ∧ decode4 0xED 0x71 0 0 = .outZero ∧
    decode4 0xED 0x42 0 0 = .sbcHlSs .bc ∧ decode4 0xED 0x7A 0 0 = .adcHlSs .sp ∧ decode4 0xED 0x43 0x10 0xC1 = .ldAtNnDd 0xC110 .bc ∧
    decode4 0xED 0x7B 0x00 0xC1 = .ldDdAtNn .sp 0xC100 ∧ decode4 0xED 0x44 0 0 = .neg 0 ∧ decode4 0xED 0x7C 0 0 = .neg 7 ∧
    decode4 0xED 0x45 0 0 = .retn 0 ∧ decode4 0xED 0x7D 0 0 = .retn 7 ∧ decode4 0xED 0x4D 0 0 = .reti ∧ decode4 0xED 0x46 0 0 = .im0 0 ∧
    decode4 0xED 0x6E 0 0 = .im0 5 ∧ decode4 0xED 0x56 0 0 = .im1 2 ∧ decode4 0xED 0x76 0 0 = .im1 6 := by decide

/-- Words of the ED table (R120). -/
theorem test_decode_ed_2 :
    decode4 0xED 0x5E 0 0 = .im2 3 ∧ decode4 0xED 0x7E 0 0 = .im2 7 ∧ decode4 0xED 0x47 0 0 = .ldIA ∧ decode4 0xED 0x4F 0 0 = .ldRA ∧
    decode4 0xED 0x57 0 0 = .ldAI ∧ decode4 0xED 0x5F 0 0 = .ldAR ∧ decode4 0xED 0x67 0 0 = .rrd ∧ decode4 0xED 0x6F 0 0 = .rld ∧
    decode4 0xED 0x77 0 0 = .nopEd7 false ∧ decode4 0xED 0x7F 0 0 = .nopEd7 true ∧ decode4 0xED 0x00 0 0 = .nopEd0 0 ∧
    decode4 0xED 0x3F 0 0 = .nopEd0 0x3F ∧ decode4 0xED 0xC0 0 0 = .nopEd3 0 ∧ decode4 0xED 0xDD 0 0 = .nopEd3 0x1D ∧
    decode4 0xED 0x80 0 0 = .nopEd2 0 ∧ decode4 0xED 0xBF 0 0 = .nopEd2 0x3F ∧ decode4 0xED 0xA0 0 0 = .ldi := by decide

/-- Words of the ED table (R120). -/
theorem test_decode_ed_3 :
    decode4 0xED 0xA8 0 0 = .ldd ∧ decode4 0xED 0xB0 0 0 = .ldir ∧ decode4 0xED 0xB8 0 0 = .lddr ∧ decode4 0xED 0xA1 0 0 = .cpi ∧
    decode4 0xED 0xA9 0 0 = .cpd ∧ decode4 0xED 0xB1 0 0 = .cpir ∧ decode4 0xED 0xB9 0 0 = .cpdr ∧ decode4 0xED 0xA2 0 0 = .ini ∧
    decode4 0xED 0xAA 0 0 = .ind ∧ decode4 0xED 0xB2 0 0 = .inir ∧ decode4 0xED 0xBA 0 0 = .indr ∧ decode4 0xED 0xA3 0 0 = .outi ∧
    decode4 0xED 0xAB 0 0 = .outd ∧ decode4 0xED 0xB3 0 0 = .otir ∧ decode4 0xED 0xBB 0 0 = .otdr := by decide

/-- Words of the DD table (R121 to R126). -/
theorem test_decode_dd_1 :
    decode4 0xDD 0x21 0x34 0x12 = .ldIxNn 0x1234 ∧ decode4 0xDD 0x22 0x00 0xC1 = .ldAtNnIx 0xC100 ∧
    decode4 0xDD 0x2A 0x00 0xC1 = .ldIxAtNn 0xC100 ∧ decode4 0xDD 0x29 0 0 = .addIxPp .xy ∧ decode4 0xDD 0x39 0 0 = .addIxPp .sp ∧
    decode4 0xDD 0x23 0 0 = .incIx ∧ decode4 0xDD 0x2B 0 0 = .decIx ∧ decode4 0xDD 0x24 0 0 = .incIxHalf .hi ∧
    decode4 0xDD 0x2C 0 0 = .incIxHalf .lo ∧ decode4 0xDD 0x25 0 0 = .decIxHalf .hi ∧ decode4 0xDD 0x2D 0 0 = .decIxHalf .lo ∧
    decode4 0xDD 0x26 0x12 0 = .ldIxHalfN .hi 0x12 ∧ decode4 0xDD 0x2E 0x12 0 = .ldIxHalfN .lo 0x12 ∧ decode4 0xDD 0x34 0xFF 0 = .incAtIx 0xFF ∧
    decode4 0xDD 0x35 0x00 0 = .decAtIx 0 ∧ decode4 0xDD 0x36 0x01 0xAB = .ldAtIxN 0x01 0xAB := by decide

/-- Words of the DD table (R121 to R126). -/
theorem test_decode_dd_2 :
    decode4 0xDD 0x66 0x7F 0 = .ldRAtIx .h 0x7F ∧ decode4 0xDD 0x75 0x05 0 = .ldAtIxR 0x05 .l ∧ decode4 0xDD 0x6C 0 0 = .ldRRIx .xl .xh ∧
    decode4 0xDD 0x45 0 0 = .ldRRIx .b .xl ∧ decode4 0xDD 0x84 0 0 = .addIxHalf .hi ∧ decode4 0xDD 0x86 0x01 0 = .addAtIx 1 ∧
    decode4 0xDD 0x8D 0 0 = .adcIxHalf .lo ∧ decode4 0xDD 0x8E 0x02 0 = .adcAtIx 2 ∧ decode4 0xDD 0x94 0 0 = .subIxHalf .hi ∧
    decode4 0xDD 0x96 0x03 0 = .subAtIx 3 ∧ decode4 0xDD 0x9D 0 0 = .sbcIxHalf .lo ∧ decode4 0xDD 0x9E 0x04 0 = .sbcAtIx 4 ∧
    decode4 0xDD 0xA4 0 0 = .andIxHalf .hi ∧ decode4 0xDD 0xA6 0x05 0 = .andAtIx 5 ∧ decode4 0xDD 0xAD 0 0 = .xorIxHalf .lo ∧
    decode4 0xDD 0xAE 0x06 0 = .xorAtIx 6 := by decide

/-- Words of the DD table (R121 to R126). -/
theorem test_decode_dd_3 :
    decode4 0xDD 0xB4 0 0 = .orIxHalf .hi ∧ decode4 0xDD 0xB6 0x07 0 = .orAtIx 7 ∧ decode4 0xDD 0xBD 0 0 = .cpIxHalf .lo ∧
    decode4 0xDD 0xBE 0x08 0 = .cpAtIx 8 ∧ decode4 0xDD 0xE1 0 0 = .popIx ∧ decode4 0xDD 0xE3 0 0 = .exAtSpIx ∧
    decode4 0xDD 0xE5 0 0 = .pushIx ∧ decode4 0xDD 0xE9 0 0 = .jpIx ∧ decode4 0xDD 0xF9 0 0 = .ldSpIx ∧ decode4 0xDD 0xDD 0 0 = .loneDd ∧
    decode4 0xDD 0xED 0 0 = .loneDd ∧ decode4 0xDD 0xFD 0 0 = .loneDd ∧ decode4 0xDD 0x00 0 0 = .ignoredDd .nop ∧
    decode4 0xDD 0x3E 0x07 0 = .ignoredDd (.ldRN .a 7) ∧ decode4 0xDD 0xC3 0x00 0x80 = .ignoredDd (.jpNn 0x8000) := by decide

/-- Words of the DDCB table (R127). -/
theorem test_decode_ddcb_1 :
    decode4 0xDD 0xCB 0x05 0x06 = .rlcAtIx 5 ∧ decode4 0xDD 0xCB 0x05 0x00 = .rlcAtIxR 5 .b ∧ decode4 0xDD 0xCB 0x05 0x0E = .rrcAtIx 5 ∧
    decode4 0xDD 0xCB 0x05 0x09 = .rrcAtIxR 5 .c ∧ decode4 0xDD 0xCB 0x05 0x16 = .rlAtIx 5 ∧ decode4 0xDD 0xCB 0x05 0x12 = .rlAtIxR 5 .d ∧
    decode4 0xDD 0xCB 0x05 0x1E = .rrAtIx 5 ∧ decode4 0xDD 0xCB 0x05 0x1B = .rrAtIxR 5 .e ∧ decode4 0xDD 0xCB 0x05 0x26 = .slaAtIx 5 ∧
    decode4 0xDD 0xCB 0x05 0x24 = .slaAtIxR 5 .h ∧ decode4 0xDD 0xCB 0x05 0x2E = .sraAtIx 5 := by decide

/-- Words of the DDCB table (R127). -/
theorem test_decode_ddcb_2 :
    decode4 0xDD 0xCB 0x05 0x2D = .sraAtIxR 5 .l ∧ decode4 0xDD 0xCB 0x05 0x36 = .sllAtIx 5 ∧ decode4 0xDD 0xCB 0x05 0x37 = .sllAtIxR 5 .a ∧
    decode4 0xDD 0xCB 0x05 0x3E = .srlAtIx 5 ∧ decode4 0xDD 0xCB 0x05 0x3F = .srlAtIxR 5 .a ∧ decode4 0xDD 0xCB 0x02 0x7E = .bitAtIx 7 2 6 ∧
    decode4 0xDD 0xCB 0x02 0x78 = .bitAtIx 7 2 0 ∧ decode4 0xDD 0xCB 0x00 0x86 = .resAtIx 0 0 ∧ decode4 0xDD 0xCB 0x00 0x8F = .resAtIxR 1 0 .a ∧
    decode4 0xDD 0xCB 0x01 0xFE = .setAtIx 7 1 ∧ decode4 0xDD 0xCB 0x01 0xC0 = .setAtIxR 0 1 .b := by decide

/-- Words of the FD table (R121 to R126). -/
theorem test_decode_fd_1 :
    decode4 0xFD 0x21 0x34 0x12 = .ldIyNn 0x1234 ∧ decode4 0xFD 0x22 0x00 0xC1 = .ldAtNnIy 0xC100 ∧
    decode4 0xFD 0x2A 0x00 0xC1 = .ldIyAtNn 0xC100 ∧ decode4 0xFD 0x29 0 0 = .addIyPp .xy ∧ decode4 0xFD 0x39 0 0 = .addIyPp .sp ∧
    decode4 0xFD 0x23 0 0 = .incIy ∧ decode4 0xFD 0x2B 0 0 = .decIy ∧ decode4 0xFD 0x24 0 0 = .incIyHalf .hi ∧
    decode4 0xFD 0x2C 0 0 = .incIyHalf .lo ∧ decode4 0xFD 0x25 0 0 = .decIyHalf .hi ∧ decode4 0xFD 0x2D 0 0 = .decIyHalf .lo ∧
    decode4 0xFD 0x26 0x12 0 = .ldIyHalfN .hi 0x12 ∧ decode4 0xFD 0x2E 0x12 0 = .ldIyHalfN .lo 0x12 ∧ decode4 0xFD 0x34 0xFF 0 = .incAtIy 0xFF ∧
    decode4 0xFD 0x35 0x00 0 = .decAtIy 0 ∧ decode4 0xFD 0x36 0x01 0xAB = .ldAtIyN 0x01 0xAB := by decide

/-- Words of the FD table (R121 to R126). -/
theorem test_decode_fd_2 :
    decode4 0xFD 0x66 0x7F 0 = .ldRAtIy .h 0x7F ∧ decode4 0xFD 0x75 0x05 0 = .ldAtIyR 0x05 .l ∧ decode4 0xFD 0x6C 0 0 = .ldRRIy .xl .xh ∧
    decode4 0xFD 0x45 0 0 = .ldRRIy .b .xl ∧ decode4 0xFD 0x84 0 0 = .addIyHalf .hi ∧ decode4 0xFD 0x86 0x01 0 = .addAtIy 1 ∧
    decode4 0xFD 0x8D 0 0 = .adcIyHalf .lo ∧ decode4 0xFD 0x8E 0x02 0 = .adcAtIy 2 ∧ decode4 0xFD 0x94 0 0 = .subIyHalf .hi ∧
    decode4 0xFD 0x96 0x03 0 = .subAtIy 3 ∧ decode4 0xFD 0x9D 0 0 = .sbcIyHalf .lo ∧ decode4 0xFD 0x9E 0x04 0 = .sbcAtIy 4 ∧
    decode4 0xFD 0xA4 0 0 = .andIyHalf .hi ∧ decode4 0xFD 0xA6 0x05 0 = .andAtIy 5 ∧ decode4 0xFD 0xAD 0 0 = .xorIyHalf .lo ∧
    decode4 0xFD 0xAE 0x06 0 = .xorAtIy 6 := by decide

/-- Words of the FD table (R121 to R126). -/
theorem test_decode_fd_3 :
    decode4 0xFD 0xB4 0 0 = .orIyHalf .hi ∧ decode4 0xFD 0xB6 0x07 0 = .orAtIy 7 ∧ decode4 0xFD 0xBD 0 0 = .cpIyHalf .lo ∧
    decode4 0xFD 0xBE 0x08 0 = .cpAtIy 8 ∧ decode4 0xFD 0xE1 0 0 = .popIy ∧ decode4 0xFD 0xE3 0 0 = .exAtSpIy ∧
    decode4 0xFD 0xE5 0 0 = .pushIy ∧ decode4 0xFD 0xE9 0 0 = .jpIy ∧ decode4 0xFD 0xF9 0 0 = .ldSpIy ∧ decode4 0xFD 0xDD 0 0 = .loneFd ∧
    decode4 0xFD 0xED 0 0 = .loneFd ∧ decode4 0xFD 0xFD 0 0 = .loneFd ∧ decode4 0xFD 0x00 0 0 = .ignoredFd .nop ∧
    decode4 0xFD 0x3E 0x07 0 = .ignoredFd (.ldRN .a 7) ∧ decode4 0xFD 0xC3 0x00 0x80 = .ignoredFd (.jpNn 0x8000) := by decide

/-- Words of the FDCB table (R127). -/
theorem test_decode_fdcb_1 :
    decode4 0xFD 0xCB 0x05 0x06 = .rlcAtIy 5 ∧ decode4 0xFD 0xCB 0x05 0x00 = .rlcAtIyR 5 .b ∧ decode4 0xFD 0xCB 0x05 0x0E = .rrcAtIy 5 ∧
    decode4 0xFD 0xCB 0x05 0x09 = .rrcAtIyR 5 .c ∧ decode4 0xFD 0xCB 0x05 0x16 = .rlAtIy 5 ∧ decode4 0xFD 0xCB 0x05 0x12 = .rlAtIyR 5 .d ∧
    decode4 0xFD 0xCB 0x05 0x1E = .rrAtIy 5 ∧ decode4 0xFD 0xCB 0x05 0x1B = .rrAtIyR 5 .e ∧ decode4 0xFD 0xCB 0x05 0x26 = .slaAtIy 5 ∧
    decode4 0xFD 0xCB 0x05 0x24 = .slaAtIyR 5 .h ∧ decode4 0xFD 0xCB 0x05 0x2E = .sraAtIy 5 := by decide

/-- Words of the FDCB table (R127). -/
theorem test_decode_fdcb_2 :
    decode4 0xFD 0xCB 0x05 0x2D = .sraAtIyR 5 .l ∧ decode4 0xFD 0xCB 0x05 0x36 = .sllAtIy 5 ∧ decode4 0xFD 0xCB 0x05 0x37 = .sllAtIyR 5 .a ∧
    decode4 0xFD 0xCB 0x05 0x3E = .srlAtIy 5 ∧ decode4 0xFD 0xCB 0x05 0x3F = .srlAtIyR 5 .a ∧ decode4 0xFD 0xCB 0x02 0x7E = .bitAtIy 7 2 6 ∧
    decode4 0xFD 0xCB 0x02 0x78 = .bitAtIy 7 2 0 ∧ decode4 0xFD 0xCB 0x00 0x86 = .resAtIy 0 0 ∧ decode4 0xFD 0xCB 0x00 0x8F = .resAtIyR 1 0 .a ∧
    decode4 0xFD 0xCB 0x01 0xFE = .setAtIy 7 1 ∧ decode4 0xFD 0xCB 0x01 0xC0 = .setAtIyR 0 1 .b := by decide

/-! One step each, from 95_test_vectors Part 2, V40 -/

/-- V40-1 (R150). -/
theorem test_v40_1 : ends (step { start 0 [0x41] with main.c := 0x5A })
    (fun t => t.main.b == 0x5A && t.pc == 0x0001 && t.cycles == 4) = true := by
  decide

/-- V40-2 (R151). -/
theorem test_v40_2 : ends (step (start 0 [0x3E, 0x80])) (fun t => t.main.a == 0x80 && t.pc == 0x0002 && t.cycles == 7) = true := by decide

/-- V40-3 (R152). -/
theorem test_v40_3 : ends (step { poke [(0xC100, [0x99])] (start 0 [0x7E]) with main.h := 0xC1, main.l := 0x00 })
    (fun t => t.main.a == 0x99 && t.pc == 0x0001 && t.cycles == 7) = true := by
  decide

/-- V40-4 (R153). -/
theorem test_v40_4 : ends (step { start 0 [0x70] with main.h := 0xC0, main.l := 0x10, main.b := 0x12 })
    (fun t => t.read8 0xC010 == 0x12 && t.pc == 0x0001 && t.cycles == 7) = true := by
  decide

/-- V40-5 (R153): LD (HL),H stores the high byte of the address itself. -/
theorem test_v40_5 : ends (step { start 0 [0x74] with main.h := 0xC0, main.l := 0x10 })
    (fun t => t.read8 0xC010 == 0xC0 && t.pc == 0x0001 && t.cycles == 7) = true := by
  decide

/-- V40-6 (R154). -/
theorem test_v40_6 : ends (step { start 0 [0x36, 0x5A] with main.h := 0xC0, main.l := 0x20 })
    (fun t => t.read8 0xC020 == 0x5A && t.pc == 0x0002 && t.cycles == 10) = true := by
  decide

/-- V40-7 (R155): d = 0xFE = -2. -/
theorem test_v40_7 : ends (step { poke [(0xC100, [0x42])] (start 0 [0xDD, 0x7E, 0xFE]) with ix := 0xC102 })
    (fun t => t.main.a == 0x42 && t.pc == 0x0003 && t.cycles == 19) = true := by
  decide

/-- V40-8 (R155): the destination is H, not IYh. -/
theorem test_v40_8 : ends (step { poke [(0xC07F, [0x31])] (start 0 [0xFD, 0x66, 0x7F]) with iy := 0xC000 })
    (fun t => t.main.h == 0x31 && t.pc == 0x0003 && t.cycles == 19) = true := by
  decide

/-- V40-9 (R156). -/
theorem test_v40_9 : ends (step { start 0 [0xDD, 0x77, 0x05] with ix := 0xC000, main.a := 0x3C })
    (fun t => t.read8 0xC005 == 0x3C && t.pc == 0x0003 && t.cycles == 19) = true := by
  decide

/-- V40-10 (R157): d comes before n. -/
theorem test_v40_10 : ends (step { start 0 [0xDD, 0x36, 0x01, 0xAB] with ix := 0xC000 })
    (fun t => t.read8 0xC001 == 0xAB && t.pc == 0x0004 && t.cycles == 19) = true := by
  decide

/-- V40-11 (R169): LD IXh,n. -/
theorem test_v40_11 : ends (step { start 0 [0xDD, 0x26, 0x12] with ix := 0x3456 })
    (fun t => t.ix == 0x1256 && t.pc == 0x0003 && t.cycles == 11) = true := by
  decide

/-- V40-12 (R168): LD IYl,IYh. -/
theorem test_v40_12 : ends (step { start 0 [0xFD, 0x6C] with iy := 0x1234 })
    (fun t => t.iy == 0x1212 && t.pc == 0x0002 && t.cycles == 8) = true := by
  decide

/-- V40-13 (R168): LD B,IXl. -/
theorem test_v40_13 : ends (step { start 0 [0xDD, 0x45] with ix := 0xABCD })
    (fun t => t.main.b == 0xCD && t.pc == 0x0002 && t.cycles == 8) = true := by
  decide

/-- V40-14 (R158). -/
theorem test_v40_14 : ends (step { poke [(0xC200, [0x77])] (start 0 [0x0A]) with main.b := 0xC2, main.c := 0x00 })
    (fun t => t.main.a == 0x77 && t.pc == 0x0001 && t.cycles == 7) = true := by
  decide

/-- V40-15 (R166). -/
theorem test_v40_15 : ends (step { start 0 [0x12] with main.d := 0xC2, main.e := 0x01, main.a := 0x66 })
    (fun t => t.read8 0xC201 == 0x66 && t.pc == 0x0001 && t.cycles == 7) = true := by
  decide

/-- V40-16 (R160). -/
theorem test_v40_16 : ends (step (poke [(0xC300, [0xEE])] (start 0 [0x3A, 0x00, 0xC3])))
    (fun t => t.main.a == 0xEE && t.pc == 0x0003 && t.cycles == 13) = true := by
  decide

/-- V40-17 (R167). -/
theorem test_v40_17 : ends (step { start 0 [0x32, 0xFF, 0xDF] with main.a := 0x11 })
    (fun t => t.read8 0xDFFF == 0x11 && t.pc == 0x0003 && t.cycles == 13) = true := by
  decide

/-- V40-18 (R161): PV = IFF2; C kept. -/
theorem test_v40_18 : ends (step { start 0 [0xED, 0x57] with i := 0x80, ctl.iff2 := true, main.f := 0x01 })
    (fun t => t.main.a == 0x80 && t.main.f == 0x85 && t.cycles == 9) = true := by
  decide

/-- V40-19 (R162): A reads R after its two increments: 0x7E -> 0x7F -> 0x00 (bit 7 kept). -/
theorem test_v40_19 : ends (step { start 0 [0xED, 0x5F] with r := 0x7E })
    (fun t => t.main.f == 0x40 && t.r == 0x00 && t.cycles == 9) = true := by
  decide

/-- V40-20 (R163). -/
theorem test_v40_20 : ends (step { start 0 [0xED, 0x47] with main.a := 0x3F })
    (fun t => t.i == 0x3F && t.pc == 0x0002 && t.cycles == 9) = true := by
  decide

/-- V40-21 (R164): all 8 bits written after the increments. -/
theorem test_v40_21 : ends (step { start 0 [0xED, 0x4F] with main.a := 0xFF }) (fun t => t.r == 0xFF && t.cycles == 9) = true := by decide

/-- V40-22 (R152): 0xFFFF mirrors 0xDFFF with 8 KiB RAM. -/
theorem test_v40_22 : ends (step { poke [(0xDFFF, [0x5C])] (start 0 [0x7E]) with main.h := 0xFF, main.l := 0xFF })
    (fun t => t.main.a == 0x5C && t.pc == 0x0001 && t.cycles == 7) = true := by
  decide

/-! One step each, from 95_test_vectors Part 2, V41 -/

/-- V41-1 (R180): little-endian immediate. -/
theorem test_v41_1 : ends (step (start 0 [0x01, 0x34, 0x12])) (fun t => t.main.b == 0x12 && t.main.c == 0x34 && t.cycles == 10) = true := by decide

/-- V41-3 (R181). -/
theorem test_v41_3 : ends (step (start 0 [0xFD, 0x21, 0x00, 0xC0])) (fun t => t.iy == 0xC000 && t.pc == 0x0004 && t.cycles == 14) = true := by decide

/-- V41-4 (R182). -/
theorem test_v41_4 : ends (step (poke [(0xC100, [0xCD, 0xAB])] (start 0 [0x2A, 0x00, 0xC1])))
    (fun t => t.main.h == 0xAB && t.main.l == 0xCD && t.cycles == 16) = true := by
  decide

/-- V41-5 (R183). -/
theorem test_v41_5 : ends (step (poke [(0xC100, [0x01, 0x80])] (start 0 [0xDD, 0x2A, 0x00, 0xC1])))
    (fun t => t.ix == 0x8001 && t.pc == 0x0004 && t.cycles == 20) = true := by
  decide

/-- V41-6 (R184): LD SP,(nn). -/
theorem test_v41_6 : ends (step (poke [(0xC100, [0xFE, 0xDF])] (start 0 [0xED, 0x7B, 0x00, 0xC1])))
    (fun t => t.sp == 0xDFFE && t.pc == 0x0004 && t.cycles == 20) = true := by
  decide

/-- V41-7 (R185). -/
theorem test_v41_7 : ends (step { start 0 [0x22, 0x00, 0xC1] with main.h := 0xBE, main.l := 0xEF })
    (fun t => t.read8 0xC100 == 0xEF && t.read8 0xC101 == 0xBE && t.cycles == 16) = true := by
  decide

/-- V41-8 (R186): the high byte goes to 0xE000, which mirrors 0xC000. -/
theorem test_v41_8 : ends (step { start 0 [0xFD, 0x22, 0xFF, 0xDF] with iy := 0x1234 })
    (fun t => t.read8 0xC000 == 0x12 && t.read8 0xDFFF == 0x34 && t.cycles == 20) = true := by
  decide

/-- V41-9 (R187). -/
theorem test_v41_9 : ends (step { start 0 [0xED, 0x43, 0x10, 0xC1] with main.b := 0x55, main.c := 0x66 })
    (fun t => t.read8 0xC110 == 0x66 && t.read8 0xC111 == 0x55 && t.cycles == 20) = true := by
  decide

/-- V41-10 (R188). -/
theorem test_v41_10 : ends (step { start 0 [0xF9] with main.h := 0xD0, main.l := 0x00 })
    (fun t => t.sp == 0xD000 && t.pc == 0x0001 && t.cycles == 6) = true := by
  decide

/-- V41-11 (R189). -/
theorem test_v41_11 : ends (step { start 0 [0xDD, 0xF9] with ix := 0xC800 })
    (fun t => t.sp == 0xC800 && t.pc == 0x0002 && t.cycles == 10) = true := by
  decide

/-- V41-12 (R190). -/
theorem test_v41_12 : ends (step { start 0 [0xC5] with main.b := 0x12, main.c := 0x34, sp := 0xE000 })
    (fun t => t.read8 0xDFFE == 0x34 && t.read8 0xDFFF == 0x12 && t.sp == 0xDFFE && t.cycles == 11) = true := by
  decide

/-- V41-13 (R190): PUSH AF. -/
theorem test_v41_13 : ends (step { start 0 [0xF5] with main.a := 0x12, main.f := 0xD7, sp := 0xC002 })
    (fun t => t.read8 0xC000 == 0xD7 && t.read8 0xC001 == 0x12 && t.sp == 0xC000 && t.cycles == 11) = true := by
  decide

/-- V41-14 (R191). -/
theorem test_v41_14 : ends (step { start 0 [0xDD, 0xE5] with ix := 0xA1B2, sp := 0xC010 })
    (fun t => t.read8 0xC00E == 0xB2 && t.read8 0xC00F == 0xA1 && t.sp == 0xC00E && t.cycles == 15) = true := by
  decide

/-- V41-15 (R192): POP AF loads all 8 bits of F. -/
theorem test_v41_15 : ends (step { poke [(0xC100, [0xFF, 0x00])] (start 0 [0xF1]) with sp := 0xC100 })
    (fun t => t.main.f == 0xFF && t.sp == 0xC102 && t.cycles == 10) = true := by
  decide

/-- V41-16 (R192): SP wraps: L from 0xFFFF (mirror of 0xDFFF), H from 0x0000, the ROM byte 0xE1 of the POP itself. -/
theorem test_v41_16 : ends (step { poke [(0xDFFF, [0x34])] (start 0 [0xE1]) with sp := 0xFFFF })
    (fun t => t.main.h == 0xE1 && t.main.l == 0x34 && t.sp == 0x0001 && t.cycles == 10) = true := by
  decide

/-- V41-17 (R193). -/
theorem test_v41_17 : ends (step { poke [(0xC100, [0x78, 0x56])] (start 0 [0xFD, 0xE1]) with sp := 0xC100 })
    (fun t => t.iy == 0x5678 && t.sp == 0xC102 && t.cycles == 14) = true := by
  decide

/-- V41-18 (R194). -/
theorem test_v41_18 : ends (step { start 0 [0xEB] with main.d := 0x11, main.e := 0x11, main.h := 0x22, main.l := 0x22 })
    (fun t => t.main.d == 0x22 && t.main.e == 0x22 && t.main.h == 0x11 && t.cycles == 4) = true := by
  decide

/-- V41-19 (R195). -/
theorem test_v41_19 : ends (step { start 0 [0x08] with main.a := 0x01, main.f := 0x02, alt.a := 0x03, alt.f := 0x04 })
    (fun t => t.main.a == 0x03 && t.main.f == 0x04 && t.alt.a == 0x01 && t.alt.f == 0x02 && t.cycles == 4) = true := by
  decide

/-- V41-20 (R196). -/
theorem test_v41_20 : ends (step { start 0 [0xD9] with main.b := 0x01, main.c := 0x02, main.d := 0x03, main.e := 0x04, main.h := 0x05, main.l := 0x06, alt.b := 0x11, alt.c := 0x12, alt.d := 0x13, alt.e := 0x14, alt.h := 0x15, alt.l := 0x16, main.a := 0x77 })
    (fun t => t.main.b == 0x11 && t.main.l == 0x16 && t.alt.b == 0x01 && t.alt.l == 0x06 && t.cycles == 4) = true := by
  decide

/-- V41-21 (R197). -/
theorem test_v41_21 : ends (step { poke [(0xC100, [0x78, 0x56])] (start 0 [0xE3]) with main.h := 0x12, main.l := 0x34, sp := 0xC100 })
    (fun t => t.read8 0xC100 == 0x34 && t.read8 0xC101 == 0x12 && t.main.h == 0x56 && t.cycles == 19) = true := by
  decide

/-- V41-22 (R198). -/
theorem test_v41_22 : ends (step { poke [(0xC100, [0x01, 0x02])] (start 0 [0xDD, 0xE3]) with ix := 0xAAAA, sp := 0xC100 })
    (fun t => t.read8 0xC100 == 0xAA && t.read8 0xC101 == 0xAA && t.ix == 0x0201 && t.cycles == 23) = true := by
  decide

/-! One step each, from 95_test_vectors Part 2, V42 -/

/-- V42-1 (R210): n = A + byte = 0x0A: Y = n[1] = 1, X = n[3] = 1. -/
theorem test_v42_1 : ends (step { poke [(0xC000, [0x0A])] (start 0 [0xED, 0xA0]) with main.h := 0xC0, main.l := 0x00, main.d := 0xC1, main.e := 0x00, main.b := 0x00, main.c := 0x02, main.a := 0x00 })
    (fun t => t.main.f == 0x2C && t.main.c == 0x01 && t.main.e == 0x01 && t.main.l == 0x01 && t.cycles == 16) = true := by
  decide

/-- V42-2 (R210): BC reaches 0: PV = 0; S, Z, C kept. -/
theorem test_v42_2 : ends (step { poke [(0xC000, [0x00])] (start 0 [0xED, 0xA0]) with main.h := 0xC0, main.l := 0x00, main.d := 0xC1, main.e := 0x00, main.b := 0x00, main.c := 0x01, main.f := 0xC1 })
    (fun t => t.main.c == 0x00 && t.main.e == 0x01 && t.main.l == 0x01 && t.cycles == 16) = true := by
  decide

/-- V42-3 (R211). -/
theorem test_v42_3 : ends (step { poke [(0xC005, [0x55])] (start 0 [0xED, 0xA8]) with main.h := 0xC0, main.l := 0x05, main.d := 0xC1, main.e := 0x05, main.b := 0x00, main.c := 0x03 })
    (fun t => t.main.f == 0x04 && t.main.c == 0x02 && t.main.e == 0x04 && t.main.l == 0x04 && t.cycles == 16) = true := by
  decide

/-- V42-5 (R212): one iteration that repeats: PC back at 0x0000, Y/X drawn. -/
theorem test_v42_5 : ends (step { poke [(0xC000, [0x01, 0x02, 0x03])] (start 0 [0xED, 0xB0]) with main.h := 0xC0, main.l := 0x00, main.d := 0xC1, main.e := 0x00, main.b := 0x00, main.c := 0x03 })
    (fun t => t.main.c == 0x02 && t.main.e == 0x01 && t.main.l == 0x01 && t.read8 0xC100 == 0x01 && t.cycles == 21) = true := by
  decide

/-- V42-7 (R215): match: Z = 1. -/
theorem test_v42_7 : ends (step { poke [(0xC000, [0x10])] (start 0 [0xED, 0xA1]) with main.a := 0x10, main.h := 0xC0, main.l := 0x00, main.b := 0x00, main.c := 0x05 })
    (fun t => t.main.f == 0x46 && t.main.c == 0x04 && t.main.l == 0x01 && t.cycles == 16) = true := by
  decide

/-- V42-8 (R216): C kept; BC -> 0: PV = 0. -/
theorem test_v42_8 : ends (step { poke [(0xC000, [0x20])] (start 0 [0xED, 0xA9]) with main.a := 0x10, main.h := 0xC0, main.l := 0x00, main.b := 0x00, main.c := 0x01, main.f := 0x01 })
    (fun t => t.main.f == 0x83 && t.main.c == 0x00 && t.main.h == 0xBF && t.main.l == 0xFF && t.cycles == 16) = true := by
  decide

/-- V42-11 (R220). -/
theorem test_v42_11 : ends (step { start 0 [0xED, 0xA2] with io.answers := [0x80], main.b := 0x02, main.c := 0xBE, main.h := 0xC0, main.l := 0x00 })
    (fun t => t.main.f == 0x17 && t.main.b == 0x01 && t.main.l == 0x01 && t.read8 0xC000 == 0x80 && t.cycles == 16) = true := by
  decide

/-- V42-12 (R221): B -> 0: Z = 1. -/
theorem test_v42_12 : ends (step { start 0 [0xED, 0xAA] with io.answers := [0xFF], main.b := 0x01, main.c := 0x10, main.h := 0xC0, main.l := 0x03 })
    (fun t => t.main.f == 0x57 && t.main.b == 0x00 && t.main.l == 0x02 && t.read8 0xC003 == 0xFF && t.cycles == 16) = true := by
  decide

/-- V42-15 (R224): port = BC after B is decremented. -/
theorem test_v42_15 : ends (step { poke [(0xC000, [0x81])] (start 0 [0xED, 0xA3]) with main.b := 0x01, main.c := 0xBE, main.h := 0xC0, main.l := 0x00 })
    (fun t => t.io.trace == [.write 0x00BE 0x81] && t.main.f == 0x42 && t.main.b == 0x00 && t.main.l == 0x01 && t.cycles == 16) = true := by
  decide

/-- V42-16 (R225). -/
theorem test_v42_16 : ends (step { poke [(0xC001, [0x07])] (start 0 [0xED, 0xAB]) with main.b := 0x05, main.c := 0xBF, main.h := 0xC0, main.l := 0x01 })
    (fun t => t.io.trace == [.write 0x04BF 0x07] && t.main.f == 0x04 && t.main.b == 0x04 && t.main.l == 0x00 && t.cycles == 16) = true := by
  decide

/-- V42-19 (R212): source = destination. -/
theorem test_v42_19 : ends (step { poke [(0xC000, [0x42])] (start 0 [0xED, 0xB0]) with main.h := 0xC0, main.l := 0x00, main.d := 0xC0, main.e := 0x00, main.b := 0x00, main.c := 0x01 })
    (fun t => t.main.f == 0x20 && t.main.c == 0x00 && t.main.e == 0x01 && t.main.l == 0x01 && t.cycles == 16) = true := by
  decide

/-! One step each, from 95_test_vectors Part 2, V43 -/

/-- V43-1 (R241). -/
theorem test_v43_1 : ends (step { start 0 [0x80] with main.a := 0x44, main.b := 0x11 })
    (fun t => t.main.a == 0x55 && t.pc == 0x0001 && t.cycles == 4) = true := by
  decide

/-- V43-2 (R241): signed overflow: PV = 1, H = 1. -/
theorem test_v43_2 : ends (step { start 0 [0xC6, 0x01] with main.a := 0x7F })
    (fun t => t.main.a == 0x80 && t.main.f == 0x94 && t.cycles == 7) = true := by
  decide

/-- V43-3 (R241): carry out, result 0. -/
theorem test_v43_3 : ends (step { start 0 [0xC6, 0x01] with main.a := 0xFF })
    (fun t => t.main.a == 0x00 && t.main.f == 0x51 && t.cycles == 7) = true := by
  decide

/-- V43-4 (R242): ADC A,A with C = 1. -/
theorem test_v43_4 : ends (step { start 0 [0x8F] with main.a := 0x80, main.f := 0x01 })
    (fun t => t.main.a == 0x01 && t.main.f == 0x05 && t.cycles == 4) = true := by
  decide

/-- V43-5 (R242): half carry from the carry-in. -/
theorem test_v43_5 : ends (step { start 0 [0xCE, 0x0F] with main.a := 0x00, main.f := 0x01 })
    (fun t => t.main.a == 0x10 && t.main.f == 0x10 && t.cycles == 7) = true := by
  decide

/-- V43-6 (R243): borrow. -/
theorem test_v43_6 : ends (step { start 0 [0x90] with main.a := 0x10, main.b := 0x20 })
    (fun t => t.main.a == 0xF0 && t.main.f == 0xA3 && t.cycles == 4) = true := by
  decide

/-- V43-7 (R243): signed overflow. -/
theorem test_v43_7 : ends (step { start 0 [0xD6, 0x01] with main.a := 0x80 })
    (fun t => t.main.a == 0x7F && t.main.f == 0x3E && t.cycles == 7) = true := by
  decide

/-- V43-9 (R244): SBC 0 with borrow. -/
theorem test_v43_9 : ends (step { start 0 [0xDE, 0x00] with main.a := 0x00, main.f := 0x01 })
    (fun t => t.main.a == 0xFF && t.main.f == 0xBB && t.cycles == 7) = true := by
  decide

/-- V43-11 (R245): AND sets H. -/
theorem test_v43_11 : ends (step { start 0 [0xE6, 0x0F] with main.a := 0xF3 })
    (fun t => t.main.a == 0x03 && t.main.f == 0x14 && t.cycles == 7) = true := by
  decide

/-- V43-12 (R246): XOR A clears A and C. -/
theorem test_v43_12 : ends (step { start 0 [0xAF] with main.a := 0x5A, main.f := 0xFF })
    (fun t => t.main.a == 0x00 && t.main.f == 0x44 && t.cycles == 4) = true := by
  decide

/-- V43-13 (R247). -/
theorem test_v43_13 : ends (step { start 0 [0xB0] with main.a := 0x00, main.b := 0x28 })
    (fun t => t.main.a == 0x28 && t.main.f == 0x2C && t.cycles == 4) = true := by
  decide

/-- V43-14 (R248): Y/X from the operand 0x28. -/
theorem test_v43_14 : ends (step { start 0 [0xFE, 0x28] with main.a := 0x10 })
    (fun t => t.main.f == 0xBB && t.pc == 0x0002 && t.cycles == 7) = true := by
  decide

/-- V43-16 (R248). -/
theorem test_v43_16 : ends (step { poke [(0xC003, [0x05])] (start 0 [0xDD, 0xBE, 0x03]) with main.a := 0x05, ix := 0xC000 })
    (fun t => t.main.f == 0x42 && t.pc == 0x0003 && t.cycles == 19) = true := by
  decide

/-- V43-17 (R249): overflow to 0x80; C kept. -/
theorem test_v43_17 : ends (step { start 0 [0x3C] with main.a := 0x7F, main.f := 0x01 })
    (fun t => t.main.a == 0x80 && t.main.f == 0x95 && t.cycles == 4) = true := by
  decide

/-- V43-18 (R249): to 0: Z, H; C unchanged (0). -/
theorem test_v43_18 : ends (step { start 0 [0x04] with main.b := 0xFF })
    (fun t => t.main.f == 0x50 && t.main.b == 0x00 && t.cycles == 4) = true := by
  decide

/-- V43-19 (R250). -/
theorem test_v43_19 : ends (step { poke [(0xC000, [0x0F])] (start 0 [0x34]) with main.h := 0xC0, main.l := 0x00 })
    (fun t => t.read8 0xC000 == 0x10 && t.main.f == 0x10 && t.cycles == 11) = true := by
  decide

/-- V43-20 (R251). -/
theorem test_v43_20 : ends (step { poke [(0xC000, [0x20])] (start 0 [0xFD, 0x34, 0xFF]) with iy := 0xC001 })
    (fun t => t.read8 0xC000 == 0x21 && t.main.f == 0x20 && t.cycles == 23) = true := by
  decide

/-- V43-21 (R252): INC IXh wraps; IXl unchanged. -/
theorem test_v43_21 : ends (step { start 0 [0xDD, 0x24] with ix := 0xFF00 })
    (fun t => t.main.f == 0x50 && t.ix == 0x0000 && t.cycles == 8) = true := by
  decide

/-- V43-22 (R253): overflow 0x80 -> 0x7F. -/
theorem test_v43_22 : ends (step { start 0 [0x3D] with main.a := 0x80 })
    (fun t => t.main.a == 0x7F && t.main.f == 0x3E && t.cycles == 4) = true := by
  decide

/-- V43-23 (R253): to 0. -/
theorem test_v43_23 : ends (step { start 0 [0x15] with main.d := 0x01, main.f := 0x01 })
    (fun t => t.main.f == 0x43 && t.main.d == 0x00 && t.cycles == 4) = true := by
  decide

/-- V43-24 (R254): 0 -> 0xFF, H = 1. -/
theorem test_v43_24 : ends (step { poke [(0xC000, [0x00])] (start 0 [0x35]) with main.h := 0xC0, main.l := 0x00 })
    (fun t => t.read8 0xC000 == 0xFF && t.main.f == 0xBA && t.cycles == 11) = true := by
  decide

/-- V43-25 (R255). -/
theorem test_v43_25 : ends (step { poke [(0xC010, [0x10])] (start 0 [0xDD, 0x35, 0x00]) with ix := 0xC010 })
    (fun t => t.read8 0xC010 == 0x0F && t.main.f == 0x1A && t.cycles == 23) = true := by
  decide

/-- V43-26 (R256): DEC IYl. -/
theorem test_v43_26 : ends (step { start 0 [0xFD, 0x2D] with iy := 0x1200 })
    (fun t => t.main.f == 0xBA && t.iy == 0x12FF && t.cycles == 8) = true := by
  decide

/-- V43-27 (R257): 0x9A + 0x66 = 0x00, C. -/
theorem test_v43_27 : ends (step { start 0 [0x27] with main.a := 0x9A })
    (fun t => t.main.a == 0x00 && t.main.f == 0x55 && t.cycles == 4) = true := by
  decide

/-- V43-29 (R257): after a subtraction: 0x0F - 0x06. -/
theorem test_v43_29 : ends (step { start 0 [0x27] with main.a := 0x0F, main.f := 0x02 })
    (fun t => t.main.a == 0x09 && t.main.f == 0x0E && t.cycles == 4) = true := by
  decide

/-- V43-31 (R258). -/
theorem test_v43_31 : ends (step { start 0 [0x2F] with main.a := 0x5A, main.f := 0xC5 })
    (fun t => t.main.a == 0xA5 && t.main.f == 0xF7 && t.cycles == 4) = true := by
  decide

/-- V43-33 (R259): NEG 0x80 overflows. -/
theorem test_v43_33 : ends (step { start 0 [0xED, 0x44] with main.a := 0x80 })
    (fun t => t.main.f == 0x87 && t.pc == 0x0002 && t.cycles == 8) = true := by
  decide

/-- V43-34 (R259): NEG 0: C = 0. -/
theorem test_v43_34 : ends (step { start 0 [0xED, 0x44] with main.a := 0x00 })
    (fun t => t.main.f == 0x42 && t.pc == 0x0002 && t.cycles == 8) = true := by
  decide

/-- V43-36 (R262): CCF: H = old C; Y/X from A. -/
theorem test_v43_36 : ends (step { start 0 [0x3F] with main.a := 0x28, main.f := 0x01 })
    (fun t => t.main.f == 0x38 && t.pc == 0x0001 && t.cycles == 4) = true := by
  decide

/-- V43-37 (R263): SCF: H = 0, N = 0; Y/X from A. -/
theorem test_v43_37 : ends (step { start 0 [0x37] with main.a := 0x00, main.f := 0xFE })
    (fun t => t.main.f == 0xC5 && t.pc == 0x0001 && t.cycles == 4) = true := by
  decide

/-! One step each, from 95_test_vectors Part 2, V44 -/

/-- V44-1 (R270): H from bit 11; S, Z, PV kept. -/
theorem test_v44_1 : ends (step { start 0 [0x09] with main.h := 0x0F, main.l := 0xFF, main.b := 0x00, main.c := 0x01, main.f := 0xC4 })
    (fun t => t.main.f == 0xD4 && t.main.h == 0x10 && t.main.l == 0x00 && t.cycles == 11) = true := by
  decide

/-- V44-2 (R270): ADD HL,HL carries out. -/
theorem test_v44_2 : ends (step { start 0 [0x29] with main.h := 0x80, main.l := 0x00 })
    (fun t => t.main.f == 0x01 && t.main.h == 0x00 && t.cycles == 11) = true := by
  decide

/-- V44-3 (R271): ADD IX,IX. -/
theorem test_v44_3 : ends (step { start 0 [0xDD, 0x29] with ix := 0x1234 })
    (fun t => t.main.f == 0x20 && t.ix == 0x2468 && t.cycles == 15) = true := by
  decide

/-- V44-4 (R271). -/
theorem test_v44_4 : ends (step { start 0 [0xFD, 0x39] with iy := 0xC000, sp := 0x4000 })
    (fun t => t.main.f == 0x01 && t.iy == 0x0000 && t.cycles == 15) = true := by
  decide

/-- V44-5 (R272): overflow with the carry-in. -/
theorem test_v44_5 : ends (step { start 0 [0xED, 0x5A] with main.h := 0x7F, main.l := 0xFF, main.d := 0x00, main.e := 0x00, main.f := 0x01 })
    (fun t => t.main.f == 0x94 && t.main.h == 0x80 && t.main.l == 0x00 && t.cycles == 15) = true := by
  decide

/-- V44-6 (R272): ADC HL,HL -> 0: Z, C, PV. -/
theorem test_v44_6 : ends (step { start 0 [0xED, 0x6A] with main.h := 0x80, main.l := 0x00, main.f := 0x00 })
    (fun t => t.main.f == 0x45 && t.main.h == 0x00 && t.cycles == 15) = true := by
  decide

/-- V44-7 (R273): borrow: 0xFFFF. -/
theorem test_v44_7 : ends (step { start 0 [0xED, 0x42] with main.h := 0x00, main.l := 0x00, main.b := 0x00, main.c := 0x01, main.f := 0x00 })
    (fun t => t.main.f == 0xBB && t.main.h == 0xFF && t.main.l == 0xFF && t.cycles == 15) = true := by
  decide

/-- V44-8 (R273): result 0. -/
theorem test_v44_8 : ends (step { start 0 [0xED, 0x52] with main.h := 0x12, main.l := 0x34, main.d := 0x12, main.e := 0x33, main.f := 0x01 })
    (fun t => t.main.f == 0x42 && t.main.h == 0x00 && t.main.l == 0x00 && t.cycles == 15) = true := by
  decide

/-- V44-10 (R274): wraps; F unchanged. -/
theorem test_v44_10 : ends (step { start 0 [0x03] with main.b := 0xFF, main.c := 0xFF, main.f := 0xFF })
    (fun t => t.main.b == 0x00 && t.main.c == 0x00 && t.cycles == 6) = true := by
  decide

/-- V44-11 (R275). -/
theorem test_v44_11 : ends (step { start 0 [0xDD, 0x23] with ix := 0x00FF })
    (fun t => t.ix == 0x0100 && t.pc == 0x0002 && t.cycles == 10) = true := by
  decide

/-- V44-12 (R276): DEC SP wraps. -/
theorem test_v44_12 : ends (step { start 0 [0x3B] with sp := 0x0000 })
    (fun t => t.sp == 0xFFFF && t.pc == 0x0001 && t.cycles == 6) = true := by
  decide

/-- V44-13 (R277). -/
theorem test_v44_13 : ends (step { start 0 [0xFD, 0x2B] with iy := 0x0000 })
    (fun t => t.iy == 0xFFFF && t.pc == 0x0002 && t.cycles == 10) = true := by
  decide

/-! One step each, from 95_test_vectors Part 2, V45 -/

/-- V45-1 (R290). -/
theorem test_v45_1 : ends (step { start 0 [0x07] with main.a := 0x81, main.f := 0xC4 })
    (fun t => t.main.a == 0x03 && t.main.f == 0xC5 && t.cycles == 4) = true := by
  decide

/-- V45-2 (R291). -/
theorem test_v45_2 : ends (step { start 0 [0x0F] with main.a := 0x01 })
    (fun t => t.main.a == 0x80 && t.main.f == 0x01 && t.cycles == 4) = true := by
  decide

/-- V45-3 (R292): RLA: C in 0. -/
theorem test_v45_3 : ends (step { start 0 [0x17] with main.a := 0x80, main.f := 0x00 })
    (fun t => t.main.a == 0x00 && t.main.f == 0x01 && t.cycles == 4) = true := by
  decide

/-- V45-4 (R293). -/
theorem test_v45_4 : ends (step { start 0 [0x1F] with main.a := 0x01, main.f := 0x01 })
    (fun t => t.main.a == 0x80 && t.pc == 0x0001 && t.cycles == 4) = true := by
  decide

/-- V45-5 (R295): RLC B. -/
theorem test_v45_5 : ends (step { start 0 [0xCB, 0x00] with main.b := 0x80 })
    (fun t => t.main.f == 0x01 && t.main.b == 0x01 && t.cycles == 8) = true := by
  decide

/-- V45-6 (R295): RLC (HL) of 0: Z, PV. -/
theorem test_v45_6 : ends (step { poke [(0xC000, [0x00])] (start 0 [0xCB, 0x06]) with main.h := 0xC0, main.l := 0x00 })
    (fun t => t.main.f == 0x44 && t.pc == 0x0002 && t.cycles == 15) = true := by
  decide

/-- V45-7 (R296): RRC C. -/
theorem test_v45_7 : ends (step { start 0 [0xCB, 0x09] with main.c := 0x01 })
    (fun t => t.main.f == 0x81 && t.main.c == 0x80 && t.cycles == 8) = true := by
  decide

/-- V45-8 (R297): RL D. -/
theorem test_v45_8 : ends (step { start 0 [0xCB, 0x12] with main.d := 0x80, main.f := 0x01 })
    (fun t => t.main.d == 0x01 && t.pc == 0x0002 && t.cycles == 8) = true := by
  decide

/-- V45-9 (R298): RR E. -/
theorem test_v45_9 : ends (step { start 0 [0xCB, 0x1B] with main.e := 0x01, main.f := 0x00 })
    (fun t => t.main.f == 0x45 && t.main.e == 0x00 && t.cycles == 8) = true := by
  decide

/-- V45-10 (R299): SLA A. -/
theorem test_v45_10 : ends (step { start 0 [0xCB, 0x27] with main.a := 0xC0 })
    (fun t => t.main.a == 0x80 && t.main.f == 0x81 && t.cycles == 8) = true := by
  decide

/-- V45-11 (R300): SRA keeps bit 7. -/
theorem test_v45_11 : ends (step { start 0 [0xCB, 0x2F] with main.a := 0x81 })
    (fun t => t.main.a == 0xC0 && t.main.f == 0x85 && t.cycles == 8) = true := by
  decide

/-- V45-12 (R301): SLL sets bit 0. -/
theorem test_v45_12 : ends (step { start 0 [0xCB, 0x37] with main.a := 0x80 })
    (fun t => t.main.a == 0x01 && t.main.f == 0x01 && t.cycles == 8) = true := by
  decide

/-- V45-13 (R302): SRL to 0. -/
theorem test_v45_13 : ends (step { start 0 [0xCB, 0x3F] with main.a := 0x01 })
    (fun t => t.main.a == 0x00 && t.main.f == 0x45 && t.cycles == 8) = true := by
  decide

/-- V45-14 (R303). -/
theorem test_v45_14 : ends (step { start 0 [0xCB, 0x7F] with main.a := 0x80, main.f := 0x01 })
    (fun t => t.main.f == 0x91 && t.pc == 0x0002 && t.cycles == 8) = true := by
  decide

/-- V45-16 (R303): Y/X from B. -/
theorem test_v45_16 : ends (step { start 0 [0xCB, 0x68] with main.b := 0x28 })
    (fun t => t.main.f == 0x38 && t.pc == 0x0002 && t.cycles == 8) = true := by
  decide

/-- V45-17 (R304): Y/X are draws (shown 0 here). -/
theorem test_v45_17 : ends (step { poke [(0xC000, [0x01])] (start 0 [0xCB, 0x46]) with main.h := 0xC0, main.l := 0x00 })
    (fun t => t.pc == 0x0002 && t.cycles == 12) = true := by
  decide

/-- V45-18 (R305): Y/X from the high byte of the address, 0xC0. -/
theorem test_v45_18 : ends (step { poke [(0xC028, [0x00])] (start 0 [0xDD, 0xCB, 0x02, 0x7E]) with ix := 0xC026 })
    (fun t => t.main.f == 0x54 && t.pc == 0x0004 && t.cycles == 20) = true := by
  decide

/-- V45-19 (R306): SET 7,A. -/
theorem test_v45_19 : ends (step { start 0 [0xCB, 0xFF] with main.a := 0x00 })
    (fun t => t.main.a == 0x80 && t.pc == 0x0002 && t.cycles == 8) = true := by
  decide

/-- V45-20 (R306): SET 0,(HL). -/
theorem test_v45_20 : ends (step { poke [(0xC000, [0x00])] (start 0 [0xCB, 0xC6]) with main.h := 0xC0, main.l := 0x00 })
    (fun t => t.read8 0xC000 == 0x01 && t.pc == 0x0002 && t.cycles == 15) = true := by
  decide

/-- V45-21 (R307): RES 0,A. -/
theorem test_v45_21 : ends (step { start 0 [0xCB, 0x87] with main.a := 0xFF })
    (fun t => t.main.a == 0xFE && t.pc == 0x0002 && t.cycles == 8) = true := by
  decide

/-- V45-22 (R306): undocumented SET 0,(IX+1),B: memory and B written. -/
theorem test_v45_22 : ends (step { poke [(0xC001, [0x10])] (start 0 [0xDD, 0xCB, 0x01, 0xC0]) with ix := 0xC000 })
    (fun t => t.read8 0xC001 == 0x11 && t.main.b == 0x11 && t.cycles == 23) = true := by
  decide

/-- V45-23 (R295): RLC (IY+0). -/
theorem test_v45_23 : ends (step { poke [(0xC000, [0x81])] (start 0 [0xFD, 0xCB, 0x00, 0x06]) with iy := 0xC000 })
    (fun t => t.read8 0xC000 == 0x03 && t.main.f == 0x05 && t.cycles == 23) = true := by
  decide

/-- V45-24 (R307): RES 0,(IX+0),A with the address in ROM (the opcode byte 0x87 itself): the write is dropped, A still receives 0x86 (D49). -/
theorem test_v45_24 : ends (step { start 0 [0xDD, 0xCB, 0x00, 0x87] with ix := 0x0003 })
    (fun t => t.main.a == 0x86 && t.pc == 0x0004 && t.cycles == 23) = true := by
  decide

/-- V45-25 (R308). -/
theorem test_v45_25 : ends (step { poke [(0xC000, [0x34])] (start 0 [0xED, 0x6F]) with main.a := 0x12, main.h := 0xC0, main.l := 0x00 })
    (fun t => t.read8 0xC000 == 0x42 && t.main.a == 0x13 && t.cycles == 18) = true := by
  decide

/-- V45-26 (R309). -/
theorem test_v45_26 : ends (step { poke [(0xC000, [0x34])] (start 0 [0xED, 0x67]) with main.a := 0x12, main.h := 0xC0, main.l := 0x00 })
    (fun t => t.read8 0xC000 == 0x23 && t.main.a == 0x14 && t.main.f == 0x04 && t.cycles == 18) = true := by
  decide

/-! One step each, from 95_test_vectors Part 2, V46 -/

/-- V46-1 (R320). -/
theorem test_v46_1 : ends (step (start 0 [0xC3, 0x00, 0x80])) (fun t => t.pc == 0x8000 && t.cycles == 10) = true := by decide

/-- V46-2 (R321): JP Z taken. -/
theorem test_v46_2 : ends (step { start 0 [0xCA, 0x34, 0x12] with main.f := 0x40 }) (fun t => t.pc == 0x1234 && t.cycles == 10) = true := by decide

/-- V46-3 (R321): not taken: still 10 T. -/
theorem test_v46_3 : ends (step { start 0 [0xCA, 0x34, 0x12] with main.f := 0x00 }) (fun t => t.pc == 0x0003 && t.cycles == 10) = true := by decide

/-- V46-4 (R321): JP PO taken (PV = 0). -/
theorem test_v46_4 : ends (step { start 0 [0xE2, 0x00, 0x20] with main.f := 0x00 }) (fun t => t.pc == 0x2000 && t.cycles == 10) = true := by decide

/-- V46-5 (R322): JR to itself. -/
theorem test_v46_5 : ends (step (start 0 [0x18, 0xFE])) (fun t => t.r == 0x01 && t.cycles == 12) = true := by decide

/-- V46-6 (R322): forward 127. -/
theorem test_v46_6 : ends (step (start 0x0100 [0x18, 0x7F])) (fun t => t.pc == 0x0181 && t.cycles == 12) = true := by decide

/-- V46-7 (R323): JR NC taken. -/
theorem test_v46_7 : ends (step { start 0x0100 [0x30, 0x10] with main.f := 0x00 }) (fun t => t.pc == 0x0112 && t.cycles == 12) = true := by decide

/-- V46-8 (R323): JR C not taken. -/
theorem test_v46_8 : ends (step { start 0x0100 [0x38, 0x10] with main.f := 0x00 }) (fun t => t.pc == 0x0102 && t.cycles == 7) = true := by decide

/-- V46-10 (R324): B = 0 -> 0xFF, taken. -/
theorem test_v46_10 : ends (step { start 0 [0x10, 0xFE] with main.b := 0x00 }) (fun t => t.main.b == 0xFF && t.cycles == 13) = true := by decide

/-- V46-11 (R325). -/
theorem test_v46_11 : ends (step { start 0 [0xE9] with main.h := 0x40, main.l := 0x00 })
    (fun t => t.pc == 0x4000 && t.cycles == 4) = true := by
  decide

/-- V46-12 (R326). -/
theorem test_v46_12 : ends (step { start 0 [0xFD, 0xE9] with iy := 0x1234 }) (fun t => t.pc == 0x1234 && t.cycles == 8) = true := by decide

/-- V46-13 (R327). -/
theorem test_v46_13 : ends (step { start 0x0100 [0xCD, 0x00, 0x10] with sp := 0xDFF0 })
    (fun t => t.read8 0xDFEE == 0x03 && t.read8 0xDFEF == 0x01 && t.pc == 0x1000 && t.cycles == 17) = true := by
  decide

/-- V46-14 (R328): CALL M taken. -/
theorem test_v46_14 : ends (step { start 0 [0xFC, 0x00, 0x20] with main.f := 0x80, sp := 0xD000 })
    (fun t => t.read8 0xCFFE == 0x03 && t.pc == 0x2000 && t.sp == 0xCFFE && t.cycles == 17) = true := by
  decide

/-- V46-15 (R328): CALL NZ not taken: no push. -/
theorem test_v46_15 : ends (step { start 0 [0xC4, 0x00, 0x20] with main.f := 0x40, sp := 0xD000 })
    (fun t => t.pc == 0x0003 && t.cycles == 10) = true := by
  decide

/-- V46-16 (R329). -/
theorem test_v46_16 : ends (step { poke [(0xDFEE, [0x03, 0x01])] (start 0 [0xC9]) with sp := 0xDFEE })
    (fun t => t.pc == 0x0103 && t.sp == 0xDFF0 && t.cycles == 10) = true := by
  decide

/-- V46-17 (R330): RET NZ not taken. -/
theorem test_v46_17 : ends (step { start 0 [0xC0] with main.f := 0x40, sp := 0xDFEE }) (fun t => t.pc == 0x0001 && t.cycles == 5) = true := by decide

/-- V46-18 (R330): RET C taken. -/
theorem test_v46_18 : ends (step { poke [(0xDFEE, [0x00, 0x30])] (start 0 [0xD8]) with main.f := 0x01, sp := 0xDFEE })
    (fun t => t.pc == 0x3000 && t.sp == 0xDFF0 && t.cycles == 11) = true := by
  decide

/-- V46-19 (R331). -/
theorem test_v46_19 : ends (step { poke [(0xDFEE, [0x03, 0x01])] (start 0 [0xED, 0x4D]) with ctl.iff1 := false, ctl.iff2 := true, sp := 0xDFEE })
    (fun t => t.pc == 0x0103 && t.sp == 0xDFF0 && t.ctl.iff1 && t.cycles == 14) = true := by
  decide

/-- V46-20 (R332). -/
theorem test_v46_20 : ends (step { poke [(0xDFEE, [0x34, 0x12])] (start 0 [0xED, 0x45]) with ctl.iff1 := false, ctl.iff2 := true, sp := 0xDFEE })
    (fun t => t.pc == 0x1234 && t.sp == 0xDFF0 && t.ctl.iff1 && t.cycles == 14) = true := by
  decide

/-- V46-21 (R333). -/
theorem test_v46_21 : ends (step { start 0x0123 [0xFF] with sp := 0xD000 })
    (fun t => t.read8 0xCFFE == 0x24 && t.read8 0xCFFF == 0x01 && t.pc == 0x0038 && t.cycles == 11) = true := by
  decide

/-- V46-22 (R333): RST 0x10 leaves IFF unchanged. -/
theorem test_v46_22 : ends (step { start 0 [0xD7] with sp := 0xD000, ctl.iff1 := true, ctl.iff2 := true })
    (fun t => t.read8 0xCFFE == 0x01 && t.pc == 0x0010 && t.sp == 0xCFFE && t.cycles == 11) = true := by
  decide

/-- V46-23 (R322): backward 128 wraps to 0xFF92. -/
theorem test_v46_23 : ends (step (start 0x0010 [0x18, 0x80])) (fun t => t.pc == 0xFF92 && t.cycles == 12) = true := by decide

/-! One step each, from 95_test_vectors Part 2, V47 -/

/-- V47-1 (R352): port 0x12DC; F unchanged. -/
theorem test_v47_1 : ends (step { start 0 [0xDB, 0xDC] with io.answers := [0xFF], main.a := 0x12, main.f := 0x00 })
    (fun t => t.main.a == 0xFF && t.pc == 0x0002 && t.cycles == 11) = true := by
  decide

/-- V47-2 (R353). -/
theorem test_v47_2 : ends (step { start 0 [0xED, 0x78] with io.answers := [0x80], main.b := 0x00, main.c := 0xBF, main.f := 0x01 })
    (fun t => t.main.a == 0x80 && t.main.f == 0x81 && t.cycles == 12) = true := by
  decide

/-- V47-3 (R353): IN B,(C) of 0: Z, PV. -/
theorem test_v47_3 : ends (step { start 0 [0xED, 0x40] with io.answers := [0x00], main.b := 0x00, main.c := 0xDC })
    (fun t => t.main.f == 0x44 && t.pc == 0x0002 && t.cycles == 12) = true := by
  decide

/-- V47-4 (R354): IN (C): only F changes. -/
theorem test_v47_4 : ends (step { start 0 [0xED, 0x70] with io.answers := [0x00], main.b := 0x00, main.c := 0xDD, main.f := 0x01 })
    (fun t => t.main.f == 0x45 && t.pc == 0x0002 && t.cycles == 12) = true := by
  decide

/-- V47-5 (R355). -/
theorem test_v47_5 : ends (step { start 0 [0xD3, 0x7F] with main.a := 0x9F })
    (fun t => t.io.trace == [.write 0x9F7F 0x9F] && t.pc == 0x0002 && t.cycles == 11) = true := by
  decide

/-- V47-6 (R356). -/
theorem test_v47_6 : ends (step { start 0 [0xED, 0x79] with main.b := 0x00, main.c := 0xBE, main.a := 0x3F })
    (fun t => t.io.trace == [.write 0x00BE 0x3F] && t.pc == 0x0002 && t.cycles == 12) = true := by
  decide

/-- V47-7 (R356): OUT (C),B sends the port high byte. -/
theorem test_v47_7 : ends (step { start 0 [0xED, 0x41] with main.b := 0x12, main.c := 0xBE })
    (fun t => t.io.trace == [.write 0x12BE 0x12] && t.pc == 0x0002 && t.cycles == 12) = true := by
  decide

/-- V47-8 (R357). -/
theorem test_v47_8 : ends (step { start 0 [0xED, 0x71] with main.b := 0x00, main.c := 0xBE })
    (fun t => t.io.trace == [.write 0x00BE 0x00] && t.pc == 0x0002 && t.cycles == 12) = true := by
  decide

/-! One step each, from 95_test_vectors Part 2, V48 -/

/-- V48-1 (R370). -/
theorem test_v48_1 : ends (step (start 0 [0x00])) (fun t => t.pc == 0x0001 && t.cycles == 4) = true := by decide

/-- V48-3 (R372). -/
theorem test_v48_3 : ends (step { start 0 [0xF3] with ctl.iff1 := true, ctl.iff2 := true })
    (fun t => !t.ctl.iff1 && !t.ctl.iff2 && t.cycles == 4) = true := by
  decide

/-- V48-4 (R373). -/
theorem test_v48_4 : ends (step (start 0 [0xFB])) (fun t => t.ctl.iff1 && t.ctl.iff2 && t.ctl.eiDefer && t.cycles == 4) = true := by decide

/-- V48-5 (R374). -/
theorem test_v48_5 : ends (step { start 0 [0xED, 0x46] with ctl.im := .mode1 })
    (fun t => t.ctl.im == .mode0 && t.pc == 0x0002 && t.cycles == 8) = true := by
  decide

/-- V48-7 (R375). -/
theorem test_v48_7 : ends (step (start 0 [0xED, 0x56])) (fun t => t.ctl.im == .mode1 && t.pc == 0x0002 && t.cycles == 8) = true := by decide

/-- V48-8 (R376): duplicate of IM 2. -/
theorem test_v48_8 : ends (step (start 0 [0xED, 0x7E])) (fun t => t.ctl.im == .mode2 && t.pc == 0x0002 && t.cycles == 8) = true := by decide

/-- V48-9 (R377): undefined ED: 8 T no-op. -/
theorem test_v48_9 : ends (step (start 0 [0xED, 0x00])) (fun t => t.pc == 0x0002 && t.cycles == 8) = true := by decide

/-- V48-13 (R379): ignored prefix: LD A,n + 4 T. -/
theorem test_v48_13 : ends (step (start 0 [0xDD, 0x3E, 0x07])) (fun t => t.main.a == 0x07 && t.pc == 0x0003 && t.cycles == 11) = true := by decide

/-- V48-14 (R379): ignored prefix on JP. -/
theorem test_v48_14 : ends (step (start 0 [0xFD, 0xC3, 0x00, 0x80])) (fun t => t.pc == 0x8000 && t.cycles == 14) = true := by decide

/-- V48-15 (R379): INC B is not index-affected. -/
theorem test_v48_15 : ends (step { start 0 [0xDD, 0x04] with main.b := 0x01 })
    (fun t => t.main.b == 0x02 && t.pc == 0x0002 && t.cycles == 8) = true := by
  decide

/-! One step each, from 95_test_vectors Part 2, V60 -/

/-- V60-1 (R423): NMI: IFF2 <- IFF1, IFF1 <- 0, push 0x0000, PC = 0x0066. -/
theorem test_v60_1 : ends (step { start 0x0000 [0x00] with sp := 0xD000, ctl.iff1 := true, ctl.iff2 := true, ctl.nmiPending := true })
    (fun t => t.pc == 0x0066 && t.sp == 0xCFFE && !t.ctl.iff1 && t.cycles == 11) = true := by
  decide

/-- V60-2 (R423): NMI with IFF1 = 0: IFF2 becomes 0 (it copies IFF1). -/
theorem test_v60_2 : ends (step { start 0 [0x00] with sp := 0xD000, ctl.iff1 := false, ctl.iff2 := true, ctl.nmiPending := true })
    (fun t => t.pc == 0x0066 && t.sp == 0xCFFE && !t.ctl.iff2 && t.cycles == 11) = true := by
  decide

/-- V60-3 (R427): IM 1. -/
theorem test_v60_3 : ends (step { start 0 [0x00] with sp := 0xD000, ctl.iff1 := true, ctl.iff2 := true, ctl.im := .mode1, ctl.intPending := true })
    (fun t => t.pc == 0x0038 && t.sp == 0xCFFE && !t.ctl.iff1 && t.cycles == 13) = true := by
  decide

/-- V60-4 (R425): IM 2: vector word at 0xC1FF. -/
theorem test_v60_4 : ends (step { poke [(0xC1FF, [0x00, 0x30])] (start 0 [0x00]) with sp := 0xD000, ctl.iff1 := true, ctl.iff2 := true, ctl.im := .mode2, i := 0xC1, ctl.intPending := true })
    (fun t => t.pc == 0x3000 && t.sp == 0xCFFE && !t.ctl.iff1 && t.cycles == 19) = true := by
  decide

/-- V60-5 (R426): IM 0 with bus byte 0xFF = RST 0x38. -/
theorem test_v60_5 : ends (step { start 0 [0x00] with sp := 0xD000, ctl.iff1 := true, ctl.iff2 := true, ctl.im := .mode0, ctl.intPending := true })
    (fun t => t.pc == 0x0038 && t.sp == 0xCFFE && !t.ctl.iff1 && t.cycles == 13) = true := by
  decide

/-- V60-6 (R426): IM 0 with RST 0x10 on the bus. -/
theorem test_v60_6 : ends (step { start 0 [0x00] with sp := 0xD000, ctl.iff1 := true, ctl.iff2 := true, ctl.im := .mode0, ctl.intPending := true, params.busByte := 0xD7 })
    (fun t => t.pc == 0x0010 && t.sp == 0xCFFE && !t.ctl.iff1 && t.cycles == 13) = true := by
  decide

/-- V60-7 (R426, R402): IM 0 with a non-RST byte: refused; by rule R402 none of the step's effects are kept. -/
theorem test_v60_7 : ends (step { start 0 [0x00] with sp := 0xD000, ctl.iff1 := true, ctl.iff2 := true, ctl.im := .mode0, ctl.intPending := true, params.busByte := 0x00 })
    (fun t => t.refused && t.pc == 0 && t.ctl.intPending && t.cycles == 0) = true := by
  decide

/-- V60-8 (R411, R412): masked: the NOP executes and the request stays pending. -/
theorem test_v60_8 : ends (step { start 0 [0x00] with ctl.iff1 := false, ctl.im := .mode1, ctl.intPending := true })
    (fun t => t.pc == 0x0001 && t.cycles == 4) = true := by
  decide

/-- V60-11 (R413): NMI first; INT stays pending. -/
theorem test_v60_11 : ends (step { start 0 [0x00] with sp := 0xD000, ctl.iff1 := true, ctl.iff2 := true, ctl.im := .mode1, ctl.intPending := true, ctl.nmiPending := true })
    (fun t => t.pc == 0x0066 && t.sp == 0xCFFE && !t.ctl.iff1 && t.cycles == 11) = true := by
  decide

/-- V60-12 (R423, R428): halted core: the NMI pushes 0x0011 (after the HALT). -/
theorem test_v60_12 : ends (step { start 0x0011 [0x76] with ctl.halted := true, sp := 0xD000, ctl.nmiPending := true })
    (fun t => t.read8 0xCFFE == 0x11 && t.pc == 0x0066 && t.sp == 0xCFFE && t.cycles == 11) = true := by
  decide

/-- V60-14 (R378, R420): NMI pending before the lone prefix: it is accepted first (the prefix has not executed). -/
theorem test_v60_14 : ends (step { start 0x0000 [0xDD, 0xDD, 0x00] with sp := 0xD000, ctl.nmiPending := true })
    (fun t => t.pc == 0x0066 && t.sp == 0xCFFE && !t.ctl.nmiPending && t.cycles == 11) = true := by
  decide

/-- V60-15 (R378, R422): start at a boundary right after a lone prefix (PREFIX_DEFER = 1): the NMI waits; the DD executes. -/
theorem test_v60_15 : ends (step { start 0 [0xDD, 0xDD, 0x00] with sp := 0xD000, ctl.eiDefer := false, ctl.prefixDefer := true, ctl.nmiPending := true })
    (fun t => t.pc == 0x0001 && t.cycles == 4) = true := by
  decide

/-- V60-16 (R332, R423): RETN after an NMI taken with IFF1 = 1 restores IFF1 = 1. -/
theorem test_v60_16 : ends (step { poke [(0xCFFE, [0x34, 0x12])] (start 0 [0xED, 0x45]) with ctl.iff1 := false, ctl.iff2 := true, sp := 0xCFFE })
    (fun t => t.pc == 0x1234 && t.sp == 0xD000 && t.ctl.iff1 && t.cycles == 14) = true := by
  decide
/-! One iteration of the repeating block instructions, by hand from 42_block R214, with the data of V42-9 to V42-18 -/

/-- The first iteration of V42-9: no match, BC not 0, so CPIR goes back to its own first byte. -/
theorem test_cpir_repeats : ends (step { poke [(0xC000, [0x01, 0x02, 0x03, 0x04])] (start 0 [0xED, 0xB1]) with
      main.a := 0x03, main.h := 0xC0, main.c := 0x04 })
    (fun t => t.pc == 0 && t.main.c == 0x03 && t.main.l == 0x01 && t.cycles == 21) = true := by decide

/-- The last iteration of V42-9: the match at 0xC002 ends CPIR although BC is not 0. -/
theorem test_cpir_ends : ends (step { poke [(0xC000, [0x01, 0x02, 0x03, 0x04])] (start 0 [0xED, 0xB1]) with
      main.a := 0x03, main.h := 0xC0, main.l := 0x02, main.c := 0x02 })
    (fun t => t.pc == 2 && t.main.f == 0x46 && t.main.c == 0x01 && t.cycles == 16) = true := by decide

/-- The last iteration of V42-10: BC reaches 0 without a match. -/
theorem test_cpdr_ends : ends (step { poke [(0xC000, [0x05, 0x06])] (start 0 [0xED, 0xB9]) with
      main.a := 0xFF, main.h := 0xC0, main.c := 0x01 })
    (fun t => t.pc == 2 && t.main.f == 0xAA && t.main.h == 0xBF && t.cycles == 16) = true := by decide

/-- The first iteration of V42-6: LDDR steps down and goes back. -/
theorem test_lddr_repeats : ends (step { poke [(0xC000, [0x07, 0x08])] (start 0 [0xED, 0xB8]) with
      main.h := 0xC0, main.l := 0x01, main.d := 0xC1, main.e := 0x01, main.c := 0x02 })
    (fun t => t.pc == 0 && t.read8 0xC101 == 0x08 && t.main.e == 0x00 && t.cycles == 21) = true := by decide

/-- The first iteration of V42-13: INIR stores the answer and goes back. -/
theorem test_inir_repeats : ends (step { start 0 [0xED, 0xB2] with
      main.b := 0x02, main.c := 0x7F, main.h := 0xC0, io.answers := [0x11, 0x22] })
    (fun t => t.pc == 0 && t.read8 0xC000 == 0x11 && t.main.b == 0x01 && t.io.answers == [0x22]) = true := by decide

/-- The last iteration of V42-14. -/
theorem test_indr_ends : ends (step { start 0 [0xED, 0xBA] with
      main.b := 0x01, main.c := 0x7F, main.h := 0xC0, io.answers := [0x22] })
    (fun t => t.pc == 2 && t.main.f == 0x44 && t.read8 0xC000 == 0x22 && t.cycles == 16) = true := by decide

/-- The first iteration of V42-17: OTIR writes to port BC with B already decremented. -/
theorem test_otir_repeats : ends (step { poke [(0xC000, [0xA0, 0xB0])] (start 0 [0xED, 0xB3]) with
      main.b := 0x02, main.c := 0xBE, main.h := 0xC0 })
    (fun t => t.pc == 0 && t.io.trace == [.write 0x01BE 0xA0] && t.main.l == 0x01 && t.cycles == 21) = true := by decide

/-- The last iteration of V42-18. -/
theorem test_otdr_ends : ends (step { poke [(0xC000, [0xA0, 0xB0])] (start 0 [0xED, 0xBB]) with
      main.b := 0x01, main.c := 0xBE, main.h := 0xC0 })
    (fun t => t.pc == 2 && t.main.f == 0x53 && t.io.trace == [.write 0x00BE 0xA0] && t.cycles == 16) = true := by decide

/-! Memory and mapper, from 95_test_vectors V20 -/

/-- V20-1: identity banks 0, 1, 2. -/
theorem test_v20_1 : standardCart.read8 0x0000 = 0x00 ∧ standardCart.read8 0x4123 = 0xA1 ∧ standardCart.read8 0x8123 = 0xA2 := by
  decide

/-- V20-2: window 2 shows page 5. -/
theorem test_v20_2 : ends (writes [(0xFFFF, 0x05)] standardCart)
    (fun t => t.read8 0x8000 == 0x05 && t.read8 0x8123 == 0xA5) = true := by decide

/-- V20-3: 13 mod 8 = 5. -/
theorem test_v20_3 : ends (writes [(0xFFFF, 0x0D)] standardCart)
    (fun t => t.read8 0x8000 == 0x05 && t.store.mapper == .standard ⟨0, 0, 1, 13⟩) = true := by decide

/-- V20-4: the first 1 KiB of window 0 stays page 0. -/
theorem test_v20_4 : ends (writes [(0xFFFD, 0x03)] standardCart)
    (fun t => t.read8 0x0123 == 0xA0 && t.read8 0x0400 == 0x03 && t.read8 0x3FFF == 0x03) = true := by decide

/-- V20-5: a write to a ROM-backed window is dropped. -/
theorem test_v20_5 : ends (writes [(0x8000, 0x55)] standardCart)
    (fun t => t.read8 0x8000 == 0x02 && t.store == standardCart.store) = true := by decide

/-- V20-6: cartridge RAM in window 2 keeps what is written, also while ROM is shown there. -/
theorem test_v20_6 : ends (writes [(0xFFFC, 0x08), (0x8000, 0x55)] standardCart) (fun t => t.read8 0x8000 == 0x55) = true ∧
    ends (writes [(0xFFFC, 0x08), (0x8000, 0x55), (0xFFFC, 0x00)] standardCart) (fun t => t.read8 0x8000 == 0x02) = true ∧
    ends (writes [(0xFFFC, 0x08), (0x8000, 0x55), (0xFFFC, 0x00), (0xFFFC, 0x08)] standardCart)
      (fun t => t.read8 0x8000 == 0x55) = true := by decide

/-- V20-7: the two banks of cartridge RAM. -/
theorem test_v20_7 : ends (writes [(0xFFFC, 0x0C), (0x8000, 0x66), (0xFFFC, 0x08)] standardCart)
      (fun t => t.read8 0x8000 == 0x00) = true ∧
    ends (writes [(0xFFFC, 0x0C), (0x8000, 0x66), (0xFFFC, 0x08), (0xFFFC, 0x0C)] standardCart)
      (fun t => t.read8 0x8000 == 0x66) = true := by decide

/-- V20-8: a control write also lands in RAM, and shows at its mirror. -/
theorem test_v20_8 : ends (writes [(0xFFFE, 0x02)] standardCart)
    (fun t => t.read8 0xFFFE == 0x02 && t.read8 0xDFFE == 0x02 && t.read8 0x4000 == 0x02) = true := by decide

/-- V20-9 and V20-12: the refused control writes. -/
theorem test_v20_9_12 : isRefused (writes [(0xFFFC, 0x10)] standardCart) = true ∧
    isRefused (writes [(0x4000, 0x81)] codeMastersCart) = true := by decide

/-- V20-10: CodeMasters bank writes. -/
theorem test_v20_10 : ends (writes [(0x8000, 0x03), (0x0000, 0x02)] codeMastersCart)
    (fun t => t.read8 0x8000 == 0x03 && t.read8 0x0000 == 0x02 && t.read8 0x0123 == 0xA2) = true := by decide

/-- V20-11: a control write changes the read at its own address; a write beside it is dropped. -/
theorem test_v20_11 : ends (writes [(0x4000, 0x01), (0x4001, 0x77)] codeMastersCart)
    (fun t => t.read8 0x4000 == 0x01 && t.read8 0x4001 == 0x01) = true := by decide

/-- V20-13: on a linear kind a ROM write is dropped and RAM is mirrored. -/
theorem test_v20_13 : ends (writes [(0x1000, 0x12), (0xC000, 0x34)] State.reset)
    (fun t => t.read8 0x1000 == 0x00 && t.read8 0xE000 == 0x34) = true := by decide

/-! Disassembly, from 95_test_vectors V30 -/

/-- V30-1 to V30-6, with V30-3 at 0x0003. -/
theorem test_v30_1_6 : (decode4 0x00 0 0 0).text 1 = "NOP" ∧ (decode4 0x3E 0x05 0 0).text 2 = "LD A,$05" ∧
    (decode4 0x18 0xFD 0 0).text 5 = "JR $0002" ∧ (decode4 0xDD 0x7E 0xFE 0).text 3 = "LD A,(IX-2)" ∧
    (decode4 0xFD 0x36 0x05 0xAB).text 4 = "LD (IY+5),$AB" ∧ (decode4 0xDD 0xCB 0x05 0xC6).text 4 = "SET 0,(IX+5)" := by
  decide +kernel

/-- V30-7 to V30-12. -/
theorem test_v30_7_12 : (decode4 0xDD 0xCB 0x05 0xC0).text 4 = "SET 0,(IX+5),B" ∧ (decode4 0xED 0x00 0 0).text 2 = "NOP*" ∧
    (decode4 0xDD 0xDD 0 0).text 1 = "NOP*" ∧ (decode4 0xDD 0x3E 0x07 0).text 3 = "LD A,$07" ∧
    (decode4 0xDD 0x26 0x12 0).text 3 = "LD IXH,$12" ∧ (decode4 0xCB 0x37 0 0).text 2 = "SLL A" := by decide +kernel

/-- V30-13 to V30-18, with V30-18 at 0x0200. -/
theorem test_v30_13_18 : (decode4 0xED 0x70 0 0).text 2 = "IN (C)" ∧ (decode4 0xED 0x71 0 0).text 2 = "OUT (C),0" ∧
    (decode4 0xFF 0 0 0).text 1 = "RST $38" ∧ (decode4 0xDD 0xE9 0 0).text 2 = "JP (IX)" ∧
    (decode4 0xDD 0x21 0x34 0x12).text 4 = "LD IX,$1234" ∧ (decode4 0x10 0xFE 0 0).text 0x0202 = "DJNZ $0200" := by decide +kernel

/-- Disassemble(start 0x0000, count 3) on program P1. -/
theorem test_v30_disassemble : (start 0 [0x3E, 0x05, 0x3C, 0x18, 0xFD]).disassemble 0 3 =
    [⟨0x0000, 2, [0x3E, 0x05], "LD A,$05"⟩, ⟨0x0002, 1, [0x3C], "INC A"⟩, ⟨0x0003, 2, [0x18, 0xFD], "JR $0002"⟩] := by
  decide +kernel

/-! The debug plane, from 95_test_vectors V60-D; one tick each, on program P1 -/

/-- P1 at 0x0000, PC and the debug control state as given. -/
def p1 (pc : Word) (execState : ExecState) (pcBps : List Word) (cmdQ : List Command) : State :=
  { start 0 [0x3E, 0x05, 0x3C, 0x18, 0xFD] with
    pc := pc, plane := { Debug.reset with execState := execState, pcBps := pcBps, cmdQ := cmdQ } }

/-- V60-D1: the breakpoint is set, LD A,5 executes. -/
theorem test_d1 : ends (step (p1 0 .running [] [.breakAtPc 3]))
    (fun t => t.pc == 2 && t.plane.pcBps == [3] && t.cycles == 7 && t.plane.reports == []) = true := by decide

/-- V60-D1c: the check holds the core before the step. -/
theorem test_d1c : ends (step (p1 3 .running [3] []))
    (fun t => t.pc == 3 && t.plane.execState == .held && t.cycles == 0 && t.plane.reports == [.breakpointHit 3]) = true := by decide

/-- V60-D1d: a held core does nothing. -/
theorem test_d1d : ends (step (p1 3 .held [3] [])) (fun t => t == p1 3 .held [3] []) = true := by decide

/-- V60-D2: Resume skips the check once. -/
theorem test_d2 : ends (step (p1 3 .held [3] [.resume]))
    (fun t => t.pc == 2 && t.plane.execState == .running && !t.plane.skipBp && t.cycles == 12) = true := by decide

/-- V60-D3: Step from Held executes one instruction and holds. -/
theorem test_d3 : ends (step (p1 3 .held [3] [.step]))
    (fun t => t.pc == 2 && t.plane.execState == .held && t.cycles == 12 && t.plane.reports == []) = true := by decide

/-- V60-D4: Step from Running does not skip the check. -/
theorem test_d4 : ends (step (p1 3 .running [3] [.step]))
    (fun t => t.pc == 3 && t.plane.execState == .held && t.cycles == 0 && t.plane.reports == [.breakpointHit 3]) = true := by decide

/-- V60-D5: Hold stops before the step. -/
theorem test_d5 : ends (step (p1 2 .running [] [.hold])) (fun t => t == p1 2 .held [] []) = true := by decide

/-- V60-D6: RemovePcBreakpoints, then Resume. -/
theorem test_d6 : ends (step (p1 3 .held [3] [.removePcBreakpoints, .resume]))
    (fun t => t.plane.pcBps == [] && t.plane.execState == .running && t.cycles == 12) = true := by decide

/-- V60-D7: the dispatcher stops after the first Step. -/
theorem test_d7 : ends (step (p1 2 .held [] [.step, .step]))
    (fun t => t.pc == 3 && t.plane.execState == .held && t.plane.cmdQ == [.step] && t.cycles == 4) = true := by decide

/-- V60-D8b: ShowRecentMessages reports the messages and keeps them. -/
theorem test_d8b : ends (step { p1 2 .held [] [.showRecentMessages] with plane := { (p1 2 .held [] [.showRecentMessages]).plane with msgs := ["t"] } })
    (fun t => t.plane.msgs == ["t"] && t.plane.reports == [.recentMessages ["t"]] && t.cycles == 0) = true := by decide

/-- V60-D9: an acceptance at an address without a breakpoint; V60-D9b holds at the handler. -/
theorem test_d9 : ends (step { start 0 [0x00] with
      sp := 0xD000, ctl.iff1 := true, ctl.iff2 := true, ctl.im := .mode1, ctl.intPending := true, plane := { Debug.reset with pcBps := [0x38] } })
    (fun t => t.pc == 0x38 && t.cycles == 13 && t.plane.reports == []) = true := by decide

/-- V60-D10b: no check before an idle step. -/
theorem test_d10b : ends (step { start 0x10 [0x76] with pc := 0x11, ctl.halted := true, plane := { Debug.reset with pcBps := [0x11] } })
    (fun t => t.pc == 0x11 && t.cycles == 4 && t.plane.execState == .running) = true := by decide

/-- By R443 and C4: no check is made before the idle step right after a Resume, so SKIP_BP stays (log entry 28). -/
theorem test_skip_idle : ends (step { p1 2 .held [2] [.resume] with ctl.halted := true })
    (fun t => t.plane.skipBp && t.plane.execState == .running && t.pc == 2 && t.cycles == 4) = true := by decide

/-- By R443 and C4: the acceptance after it is the first boundary that would check, and SKIP_BP skips that. -/
theorem test_skip_after_idle :
    ends (step { p1 2 .running [2] [] with
      ctl.halted := true, ctl.nmiPending := true, sp := 0xD000
      plane := { (p1 2 .running [2] []).plane with skipBp := true } })
    (fun t => !t.plane.skipBp && t.plane.execState == .running && t.pc == 0x66 && t.cycles == 11) = true := by decide

/-- V60-D10c: with an acceptance ahead the check is made. -/
theorem test_d10c : ends (step { start 0x10 [0x76] with pc := 0x11, ctl.halted := true, ctl.nmiPending := true, plane := { Debug.reset with pcBps := [0x11] } })
    (fun t => t.plane.execState == .held && t.ctl.nmiPending && t.plane.reports == [.breakpointHit 0x11]) = true := by decide

/-- V60-D11: Status reports and changes nothing else. -/
theorem test_d11 : ends (step (p1 2 .held [] [.status]))
    (fun t => t.plane.reports == [.statusView (p1 2 .held [] []).statusView] && t.cycles == 0) = true := by decide

/-- V60-D12: after a refusal Resume is applied but nothing executes. -/
theorem test_d12 : ends (step { p1 2 .held [] [.resume] with refused := true })
    (fun t => t.plane.execState == .running && t.pc == 2 && t.cycles == 0) = true := by decide

/-! Reset and hazards, from 95_test_vectors V70 -/

/-- V70-1 and V70-3: `reset()` on the state V70-1 names, with both requests pending: CYCLES stays. -/
theorem test_v70_1_3 :
    let s : State := { State.reset with main.a := 0x12, ctl := ⟨true, true, .mode1, true, false, false, true, true⟩, pc := 6, r := 5, cycles := 23 }
    s.cpuReset ResetFill.zero = { State.reset with cycles := 23 } := by decide

/-- V70-2: `reset` does not touch the mapper. -/
theorem test_v70_2 :
    (State.cpuReset { standardCart with store.mapper := .standard ⟨0x08, 0, 1, 5⟩ } ResetFill.zero).store.mapper =
      .standard ⟨0x08, 0, 1, 5⟩ := by decide

/-- V70-4: a push at SP = 0 on the Standard mapper sets BANK2 and BANK1. -/
theorem test_v70_4 : ends (step { poke [(0, [0xC5])] standardCart with main.b := 0x02, main.c := 0x03 })
    (fun t => t.store.mapper == .standard ⟨0, 0, 3, 2⟩ && t.sp == 0xFFFE) = true := by decide

/-! The interface to the host (log entry 26) -/

/-- The bits of JP 0x1234, numbered as the opcode table numbers them, decode and run as the first instruction after reset. -/
theorem test_table_word : decodeTableWord 24 0x1234C3 = some (.jpNn 0x1234) ∧
    ends (step (State.reset.withFetchWord 24 0x1234C3)) (fun t => t.pc == 0x1234 && t.cycles == 10) = true := by decide

/-- SET 0,(IX+5) as a table word: the prefix is the lowest byte. -/
theorem test_table_word_ddcb : decodeTableWord 32 0xC605CBDD = some (.setAtIx 0 5) ∧
    ends (step (State.reset.withFetchWord 32 0xC605CBDD)) (fun t => t.pc == 4 && t.cycles == 23) = true := by decide

/-! Witnesses: for each statement with hypotheses, a state and operands that meet them, for each clause -/

/-- The start state with NOPs at PC, on the Standard cartridge with the stack at its mapper registers: a push is refused. -/
def badStack : State := { standardCart with sp := 0xFFFD, pc := 0x0100 }

theorem witness_EncodeThenDecode :
    (Instr.nop.wellFormed = true ∧ (Instr.nop.isLonePrefix = true → ([] : List Byte).head? = some 0xDD)) ∧
    (Instr.loneDd.wellFormed = true ∧ Instr.loneDd.isLonePrefix = true ∧ [(0xDD : Byte)].head? = some 0xDD) ∧
    (Instr.loneFd.wellFormed = true ∧ Instr.loneFd.isLonePrefix = true ∧ [(0xED : Byte)].head? = some 0xED) := by decide

theorem witness_PrefixedOpcodes :
    ((0xDD : Byte) = 0xDD) ∧ ¬ ((0x21 : Byte) = 0xDD ∨ (0x21 : Byte) = 0xED ∨ (0x21 : Byte) = 0xFD) ∧ (0x21 : Byte) ∈ affected ∧
    ¬ ((0xEB : Byte) = 0xDD ∨ (0xEB : Byte) = 0xED ∨ (0xEB : Byte) = 0xFD) ∧ (0xEB : Byte) ∉ affected := by decide

/-- The first clause: a NOP from the start state. -/
theorem witness_StepRuns_next :
    State.reset.Quiet ∧ State.reset.kind = .instr ∧
    decode [State.reset.read8 0, State.reset.read8 1, State.reset.read8 2, State.reset.read8 3] = .ok (.nop, [0, 0, 0]) ∧
    ends (exec .nop { State.reset with ctl.eiDefer := false, ctl.prefixDefer := false }) (fun t => t.plane.msgHit == none) = true :=
  ⟨by unfold State.Quiet; decide, by decide, rfl, by decide⟩

/-- LD (0xFFFC),A with bit 4 of A set, on the Standard mapper. -/
def badControl : State := { poke [(0x0100, [0x32, 0xFC, 0xFF])] badStack with main.a := 0x10 }

/-- The refusal clause. -/
theorem witness_StepRuns_refused :
    badControl.Quiet ∧ badControl.kind = .instr ∧
    decode [badControl.read8 0x0100, badControl.read8 0x0101, badControl.read8 0x0102, badControl.read8 0x0103] =
      .ok (.ldAtNnA 0xFFFC, [0x00]) ∧
    isRefused (exec (.ldAtNnA 0xFFFC) { badControl with ctl.eiDefer := false, ctl.prefixDefer := false }) = true :=
  ⟨by unfold State.Quiet; decide, by decide, rfl, by decide⟩

/-- The empty pattern is found in every text (60_exceptions R444). -/
theorem infixOf_nil (t : List Char) : infixOf [] t = true := by cases t <;> simp [infixOf, startsWith]

/-- V60-D8: an undefined ED opcode with the empty pattern as the message breakpoint. -/
def messageAhead : State := { start 0 [0xED, 0x00, 0x00] with params.logUndefined := true, plane := { Debug.reset with msgBps := [""] } }

/-- The message clause. -/
theorem witness_StepRuns_message :
    messageAhead.Quiet ∧ messageAhead.kind = .instr ∧
    decode [messageAhead.read8 0, messageAhead.read8 1, messageAhead.read8 2, messageAhead.read8 3] =
      .ok (.nopEd0 0, [0x00, 0x00]) ∧
    ∃ t, exec (.nopEd0 0) { messageAhead with ctl := { messageAhead.ctl with eiDefer := false, prefixDefer := false } } = .next t ∧
      t.plane.msgHit = some (Config.msgText (.undefinedOpcode 0 [0xED, 0x00])) := by
  refine ⟨by unfold State.Quiet; decide, by decide, rfl, _, rfl, ?_⟩
  show (none : Option Text).or (if [""].any (fun p => msgMatch .substring p (Config.msgText (.undefinedOpcode 0 [0xED, 0x00])))
    then some (Config.msgText (.undefinedOpcode 0 [0xED, 0x00])) else none) = _
  simp [msgMatch, isSubstring, infixOf_nil]

/-- States with the invariant: reset, one right after an EI with breakpoints set, the cartridges; and a step from one. -/
theorem witness_EveryStepKeepsInv :
    State.reset.Inv ∧ (∃ t, step State.reset = .next t) ∧
    ({ State.reset with ctl.iff1 := true, ctl.iff2 := true, ctl.eiDefer := true, plane := { Debug.reset with pcBps := [5], msgBps := [""] } } : State).Inv ∧
    standardCart.Inv ∧ codeMastersCart.Inv :=
  ⟨by unfold State.Inv; decide, ⟨_, rfl⟩, by unfold State.Inv; decide, by unfold State.Inv; decide, by unfold State.Inv; decide⟩

/-- A step (StepCost, ConfigurationIsFixed), and one whose CYCLES stays. -/
theorem witness_StepCost :
    (∃ t, step State.reset = .next t) ∧
    ends (step { State.reset with plane := { Debug.reset with execState := .held } }) (fun t => t.cycles == 0 && t.plane.execState == .held) = true := by
  exact ⟨⟨_, rfl⟩, by decide⟩

theorem witness_RefusedStays :
    let s : State := { State.reset with refused := true, plane := { Debug.reset with cmdQ := [.resume], execState := .held } }
    s.refused = true ∧ ends (step s) (fun t => t.plane.execState == .running) = true := by decide

theorem witness_ConfigurationIsFixed : ∃ t, step standardCart = .next t := ⟨_, rfl⟩

/-- OnlyExchangesReachTheAlternateSet and the frames of the same form: NOP answers a next state and is no exchange. -/
theorem witness_OnlyExchangesReachTheAlternateSet :
    Instr.nop.wellFormed = true ∧ ends (exec .nop State.reset) (fun _ => true) = true ∧
    Instr.nop.core ≠ .exAfAf ∧ Instr.nop.core ≠ .exx := by decide

/-- Each clause: an instruction that does change the register. -/
theorem witness_SpecialRegisterWriters_cpu :
    ends (exec .ldIA { State.reset with main.a := 1 }) (fun t => t.i != 0) = true ∧
    ends (exec (.im2 7) State.reset) (fun t => t.ctl.im != .mode0) = true ∧
    ends (exec .ei State.reset) (fun t => t.ctl.iff1 && t.ctl.iff2 && t.ctl.eiDefer) = true ∧
    ends (exec .di { State.reset with ctl.iff1 := true, ctl.iff2 := true }) (fun t => !t.ctl.iff1) = true ∧
    ends (exec .reti { State.reset with ctl.iff2 := true }) (fun t => t.ctl.iff1) = true ∧
    ends (exec (.retn 0) { State.reset with ctl.iff2 := true }) (fun t => t.ctl.iff1) = true ∧
    ends (exec .halt State.reset) (fun t => t.ctl.halted) = true ∧
    ends (exec .loneDd State.reset) (fun t => t.ctl.prefixDefer) = true := by decide

/-- SP and the I/O space; and the clause without messages. -/
theorem witness_SpecialRegisterWriters_rest :
    ends (exec (.pushQq .bc) State.reset) (fun t => t.sp != 0) = true ∧
    ends (exec (.ldDdNn .sp 5) State.reset) (fun t => t.sp != 0) = true ∧
    ends (exec (.outNA 1) State.reset) (fun t => t.io != State.reset.io) = true ∧
    State.reset.params.logUndefined = false ∧ State.reset.params.logRomWrites = false := by decide

/-- A DD form leaves IY, an FD form leaves IX, an unprefixed form leaves both. -/
theorem witness_IndexRegistersNeedTheirPrefix :
    ends (exec .incIx State.reset) (fun t => t.ix == 1) = true ∧ Instr.incIx.encode.head? ≠ some 0xFD ∧
    ends (exec .incIy State.reset) (fun t => t.iy == 1) = true ∧ Instr.incIy.encode.head? ≠ some 0xDD ∧
    Instr.incIx.wellFormed = true ∧ Instr.incIy.wellFormed = true := by decide

/-- R at its two wraps: 0x7F goes to 0x00, 0xFF to 0x80; a DD CB form counts two. -/
theorem witness_RefreshRegisterCounts :
    ends (exec .nop { State.reset with r := 0x7F }) (fun t => t.r == 0x00) = true ∧
    ends (exec .nop { State.reset with r := 0xFF }) (fun t => t.r == 0x80) = true ∧
    (Instr.setAtIx 0 5).m1 = 2 ∧ ends (exec (.setAtIx 0 5) { State.reset with r := 0x7E }) (fun t => t.r == 0x00) = true ∧
    Instr.nop.core ≠ .ldRA ∧ (Instr.setAtIx 0 5).wellFormed = true := by decide

/-- Both clauses: a wrap of PC, and LDIR going back and ending. -/
theorem witness_PcAdvances :
    (Instr.ldRN .a 1).core.transfers = false ∧ (Instr.ldRN .a 1).core.repeats = false ∧
    ends (exec (.ldRN .a 1) { State.reset with pc := 0xFFFF }) (fun t => t.pc == 1) = true ∧
    Instr.ldir.core.repeats = true ∧
    ends (exec .ldir { State.reset with main.c := 1 }) (fun t => t.pc == 2) = true ∧
    ends (exec .ldir { State.reset with main.c := 2 }) (fun t => t.pc == 0) = true := by decide

theorem witness_FlagFrame :
    (Instr.incSs .bc).wellFormed = true ∧ (Instr.incSs .bc).core.writesFlags = false ∧
    ends (exec (.incSs .bc) { State.reset with main.f := 0xFF }) (fun t => t.main.f == 0xFF) = true := by decide

/-- HL at RAM on the Standard cartridge. -/
def storing : State := { standardCart with main.h := 0xC0, main.b := 7 }

/-- The three clauses: LD (HL),B into RAM, with another address and another location beside it; and an instruction that stores nothing. -/
theorem witness_MemoryFrame :
    ((Instr.ldAtHlR .b).wellFormed = true ∧ ends (exec (.ldAtHlR .b) storing) (fun t => t.read8 0xC000 == 7) = true ∧
      storeAddrs storing (Instr.ldAtHlR .b).core = [0xC000] ∧
      Loc.ram 1 ∉ [(0xC000 : Word)].map storing.store.locate ∧ storing.store.locate 0xC001 ∉ [(0xC000 : Word)].map storing.store.locate) ∧
    storing.store.mapper.plain 0xC000 ∧
    storeAddrs storing Instr.nop.core = [] ∧ ends (exec .nop storing) (fun _ => true) = true :=
  ⟨by decide, fun _ => rfl, by decide, by decide⟩

/-- A step with no EI before, one that runs an EI, and one that runs a lone prefix. -/
theorem witness_DeferralLastsOneBoundary :
    ends State.reset.engineStep (fun t => !t.refused && !t.ctl.eiDefer && !t.ctl.prefixDefer) = true ∧
    ends (start 0 [0xFB]).engineStep (fun t => !t.refused && t.ctl.eiDefer) = true ∧
    ends (start 0 [0xDD, 0xDD]).engineStep (fun t => !t.refused && t.ctl.prefixDefer) = true ∧
    State.reset.refused = false := by decide

/-- The boundary addresses of each window, for each kind. -/
theorem witness_ReadMap :
    (0xC000 ≤ (0xC000 : Word).toNat ∧ 0xC000 ≤ (0xFFFF : Word).toNat) ∧
    standardCart.store.mapper = .standard ⟨0, 0, 1, 2⟩ ∧ (0x03FF : Word).toNat < 0x0400 ∧
    (0x0400 ≤ (0x0400 : Word).toNat ∧ (0x3FFF : Word).toNat < 0x4000) ∧
    (0x4000 ≤ (0x4000 : Word).toNat ∧ (0x7FFF : Word).toNat < 0x8000) ∧
    (0x8000 ≤ (0x8000 : Word).toNat ∧ (0xBFFF : Word).toNat < 0xC000) ∧
    (0x08 : Byte).getLsbD 3 = true ∧ (0x00 : Byte).getLsbD 3 = false ∧
    codeMastersCart.store.mapper = .codeMasters ⟨0, 1, 2⟩ ∧
    State.reset.store.mapper = .noMapper ∧ (0xBFFF : Word).toNat < State.reset.store.romLen ∧
    ({ State.reset.store with romLen := 1 } : Store).romLen ≤ (1 : Word).toNat := by decide

/-- Both ends of window 2, with and without cartridge RAM. -/
theorem witness_WindowTwoShowsThePageWritten :
    (standardCart.store.mapper = .standard ⟨0, 0, 1, 2⟩ ∧ (0x00 : Byte).getLsbD 3 = false ∧
      ends (standardCart.write8 0xFFFF 5) (fun t => t.read8 0x8000 == 5) = true) ∧
    ((0x0C : Byte).getLsbD 3 = true ∧
      ends (State.write8 { standardCart with store.mapper := .standard ⟨0x0C, 0, 1, 2⟩ } 0xFFFF 5) (fun t => t.read8 0xBFFF == 0) = true) ∧
    0x8000 ≤ (0x8000 : Word).toNat ∧ (0xBFFF : Word).toNat < 0xC000 := by decide

/-- A write to RAM, a write to ROM at no control address, and another location beside each. -/
theorem witness_ReadAfterWrite :
    (ends (standardCart.write8 0xC000 9) (fun t => t.read8 0xC000 == 9) = true ∧ (standardCart.store.locate 0xC000).writable = true) ∧
    (ends (standardCart.write8 0x8000 9) (fun t => t.store == standardCart.store) = true ∧
      (standardCart.store.locate 0x8000).writable = false ∧ standardCart.store.mapper.control 0x8000 9 = none) ∧
    Loc.ram 1 ≠ standardCart.store.locate 0xC000 ∧ standardCart.store.locate 0xE001 ≠ standardCart.store.locate 0xC000 := by decide

/-- Each control address of each kind, and the addresses beside them; what is refused is V20-9 and V20-12. -/
theorem witness_ControlWrites :
    isRefused (standardCart.write8 0xFFFC 0x01) = true ∧ isRefused (standardCart.write8 0xFFFC 0x02) = true ∧
    isRefused (standardCart.write8 0xFFFD 0x13) = false ∧ isRefused (codeMastersCart.write8 0x4000 0x80) = true ∧
    ends (standardCart.write8 0xFFFC 0x08) (fun t => t.store.mapper == .standard ⟨8, 0, 1, 2⟩) = true ∧
    ends (standardCart.write8 0xFFFB 0x13) (fun t => t.store.mapper == .standard ⟨0, 0, 1, 2⟩) = true ∧
    ends (codeMastersCart.write8 0x4000 0x7F) (fun t => t.store.mapper == .codeMasters ⟨0, 0x7F, 2⟩) = true ∧
    ends (codeMastersCart.write8 0x7FFF 0x80) (fun t => t.store.mapper == .codeMasters ⟨0, 1, 2⟩) = true ∧
    State.reset.linear = true ∧ ends (State.reset.write8 0xFFFC 0x13) (fun t => t.store.mapper == .noMapper) = true := by decide

theorem witness_AcceptanceRule :
    let s : State := { State.reset with ctl.halted := true, ctl.intPending := true }
    s.refused = false ∧ s.plane.msgHit = none ∧ s.kind = .idle := by decide

/-- A push that is kept and one that is refused. -/
theorem witness_NmiAcceptance :
    let s : State := { State.reset with ctl.nmiPending := true }
    let u : State := { badStack with ctl.nmiPending := true }
    (s.refused = false ∧ s.plane.msgHit = none ∧ s.kind = .nmiAccept ∧
      (s.store.mapper.refuses (s.sp - 1) (hi s.pc) || s.store.mapper.refuses (s.sp - 2) (lo s.pc)) = false) ∧
    (u.refused = false ∧ u.plane.msgHit = none ∧ u.kind = .nmiAccept ∧
      (u.store.mapper.refuses (u.sp - 1) (hi u.pc) || u.store.mapper.refuses (u.sp - 2) (lo u.pc)) = true) := by decide

/-- The modes, with the lowest and the highest RST byte, a byte that is no RST, and the refused push. -/
theorem witness_IntAcceptance :
    let s (im : IntMode) (bus : Byte) (b : State) : State :=
      { b with ctl.intPending := true, ctl.iff1 := true, ctl.iff2 := true, ctl.im := im, params.busByte := bus }
    (∀ im ∈ [IntMode.mode0, .mode1, .mode2], (s im 0xFF State.reset).kind = .intAccept ∧ (s im 0xFF State.reset).ctl.im = im ∧
      (s im 0xFF State.reset).refused = false ∧ (s im 0xFF State.reset).plane.msgHit = none) ∧
    (0xC7 : Byte).toNat = 199 + 8 * (0 : BitVec 3).toNat ∧ (0xFF : Byte).toNat = 199 + 8 * (7 : BitVec 3).toNat ∧
    (∀ y : BitVec 3, (0x00 : Byte).toNat ≠ 199 + 8 * y.toNat) ∧
    (s .mode1 0xFF badStack).kind = .intAccept ∧
    (badStack.store.mapper.refuses (badStack.sp - 1) (hi badStack.pc) ||
      badStack.store.mapper.refuses (badStack.sp - 2) (lo badStack.pc)) = true := by
  decide

/-- One state for each execution state, with messages up to the capacity. -/
theorem witness_CommandEffects :
    (p1 0 .held [] []).plane.execState = .held ∧ (p1 0 .singleStepPending [] []).plane.execState = .singleStepPending ∧
    (p1 0 .running [] []).plane.execState = .running ∧
    State.reset.plane.msgs.length ≤ State.reset.params.msgCapacity := by decide

theorem witness_DispatchOrder :
    Command.step ∉ [Command.resume, .hold] ∧ (p1 0 .held [] [.resume, .hold]).plane.cmdQ = [.resume, .hold] ∧
    (p1 0 .held [] [.resume, .step, .hold]).plane.cmdQ = [.resume] ++ Command.step :: [.hold] := by decide

/-- Held; a breakpoint at PC; a breakpoint that SKIP_BP passes, an idle period, and no breakpoint at PC; and a report that is made. -/
theorem witness_BreakpointsHold :
    (p1 3 .held [3] []).plane.execState = .held ∧ (p1 3 .held [3] []).plane.cmdQ = [] ∧
    ((p1 3 .running [3] []).plane.execState ≠ .held ∧ (p1 3 .running [3] []).plane.skipBp = false ∧
      (p1 3 .running [3] []).kind ≠ .idle ∧ (p1 3 .running [3] []).pc ∈ (p1 3 .running [3] []).plane.pcBps) ∧
    ({ p1 3 .running [3] [] with plane := { (p1 3 .running [3] []).plane with skipBp := true } } : State).plane.skipBp = true ∧
    ({ p1 3 .running [3] [] with ctl.halted := true } : State).kind = .idle ∧
    (p1 2 .running [3] []).pc ∉ (p1 2 .running [3] []).plane.pcBps ∧
    ends (step (p1 3 .running [3] [])) (fun t => t.plane.reports == [] ++ [.breakpointHit 3]) = true ∧
    (p1 3 .running [3] []).refused = false := by decide

theorem witness_SingleStepFromHeld :
    (p1 3 .held [3] [.step]).plane.execState = .held ∧ (p1 3 .held [3] [.step]).plane.cmdQ = [.step] ∧
    (p1 3 .held [3] [.step]).refused = false ∧ (p1 3 .held [3] [.step]).kind ≠ .idle ∧
    ({ p1 3 .held [3] [.step] with ctl.halted := true } : State).kind = .idle := by decide

/-- An empty registry, and a full one of one message. -/
theorem witness_Messages :
    State.reset.plane.msgs.length < State.reset.params.msgCapacity ∧ State.reset.plane.msgHit = none ∧
    State.reset.params.matcher = .substring ∧
    ({ State.reset with params.msgCapacity := 1, plane := { Debug.reset with msgs := ["t"] } } : State).plane.msgs.length = 1 := by decide

theorem witness_InterruptRequest :
    (p1 3 .held [] []).plane.execState = .held ∧ (p1 3 .held [] []).plane.cmdQ = [] := by decide

/-- Compatible states, and one incompatible in each respect. -/
theorem witness_SnapshotRestore :
    State.reset.store.wf = true ∧ standardCart.store.wf = true ∧
    standardCart.store.mapper.kind ≠ State.reset.store.mapper.kind ∧
    ({ State.reset with store.ramSize := 4096 } : State).store.ramSize ≠ State.reset.store.ramSize ∧
    ({ State.reset with store.romLen := 100 } : State).store.romLen ≠ State.reset.store.romLen ∧
    ({ State.reset with store.rom := [(0, 1)] } : State).store.rom ≠ State.reset.store.rom := by decide

/-- A configuration of n zeros. -/
def config (kind : Option MapperKind) (n ram : Nat) : Configuration :=
  { kind := kind, romImage := List.replicate n 0, ramSize := ram, ramInit := [], cartInit := [], fill := ResetFill.zero,
    params := Params.reset, startHeld := true }

/-- The answer is the fatal configuration error. -/
def isFatal (x : Result) : Bool :=
  match x with
  | .fault .fatalConfiguration => true
  | _ => false

/-- A linear kind is built from a smallest image with the smallest and the largest RAM; each error of R74 has a configuration. -/
theorem witness_ConfigureBuildsALegalState :
    (1 ≤ Params.reset.msgCapacity ∧ 1 ≤ Params.reset.disasmCount) ∧
    ends (configure (config (some .sg1000) 1 1024)) (fun s => s.plane.execState == .held) = true ∧
    ends (configure (config (some .noMapper) 1 16384)) (fun _ => true) = true ∧
    isFatal (configure (config none 1 1024)) = true ∧ isFatal (configure (config (some .noMapper) 0 1024)) = true ∧
    isFatal (configure (config (some .standard) 1 1024)) = true ∧ isFatal (configure (config (some .noMapper) 1 512)) = true ∧
    isFatal (configure (config (some .noMapper) 1 32768)) = true ∧ isFatal (configure (config (some .noMapper) 1 3000)) = true := by
  decide

/-- The banked kinds are built from one page, and a linear image of 48 KiB is the longest. -/
theorem witness_ConfigureBuildsALegalState_lengths :
    MapperKind.takesLength .standard 16384 = true ∧ MapperKind.takesLength .codeMasters 16384 = true ∧
    MapperKind.takesLength .sg1000 49152 = true ∧ MapperKind.takesLength .noMapper 49153 = false := by decide

/-- A write that is kept and one that is refused, for the statements in WritesOne and WritesTwo (Store8, Load16, PushPop, Exchanges,
BlockTransfer, BlockIo, IncDec8, RotateMemory, BitOperations, CallsAndReturns). -/
theorem witness_WritesOne_WritesTwo :
    State.reset.store.mapper.refuses 0xC000 0xFF = false ∧
    standardCart.store.mapper.refuses 0xFFFC 0x10 = true ∧ standardCart.store.mapper.refuses 0xFFFC 0xE8 = false ∧
    codeMastersCart.store.mapper.refuses 0x4000 0x80 = true ∧
    (State.reset.store.mapper.refuses 0xDFFF 1 || State.reset.store.mapper.refuses 0xDFFE 1) = false ∧
    (standardCart.store.mapper.refuses 0xFFFC 1 || standardCart.store.mapper.refuses 0xFFFB 0) = true ∧
    (standardCart.store.mapper.refuses 0xFFFD 0 || standardCart.store.mapper.refuses 0xFFFC 1) = true := by decide

/-- LDIR goes on with BC = 2 and ends with BC = 1. -/
theorem witness_BlockTransfer :
    (true && (State.bc { State.reset with main.c := 2 } - 1) != 0) = true ∧
    (true && (State.bc { State.reset with main.c := 1 } - 1) != 0) = false := by decide

/-- CPIR goes on, and ends by a match and by BC. -/
theorem witness_BlockSearch :
    let again (s : State) : Bool := true && (s.bc - 1) != 0 && (s.main.a - s.read8 s.hl) != 0
    again { State.reset with main.c := 2, main.a := 1 } = true ∧ again { State.reset with main.c := 2 } = false ∧
    again { State.reset with main.c := 1, main.a := 1 } = false := by decide

/-- INIR goes on with B = 2 and ends with B = 1. -/
theorem witness_BlockIo :
    (true && ((2 : Byte) - 1) != 0) = true ∧ (true && ((1 : Byte) - 1) != 0) = false := by decide

/-- Every operation of the table, and the operand kinds. -/
theorem witness_AccumulatorOperations :
    aluForm State.reset (.addR .b) = some ⟨.add, 0, 1, 1, 4⟩ ∧ aluForm State.reset (.adcN 5) = some ⟨.adc, 5, 2, 1, 7⟩ ∧
    aluForm State.reset .subAtHl = some ⟨.sub, 0, 1, 1, 7⟩ ∧ aluForm State.reset (.sbcAtIx 1) = some ⟨.sbc, 0, 3, 2, 19⟩ ∧
    aluForm State.reset (.andIxHalf .hi) = some ⟨.and, 0, 2, 2, 8⟩ ∧ aluForm State.reset (.xorIyHalf .lo) = some ⟨.xor, 0, 2, 2, 8⟩ ∧
    aluForm State.reset (.orR .a) = some ⟨.or, 0, 1, 1, 4⟩ ∧ aluForm State.reset (.cpN 0xFF) = some ⟨.cp, 0xFF, 2, 1, 7⟩ := by decide

/-- Each row of the two lists of IncDec8. -/
theorem witness_IncDec8 (d : Byte) :
    (Instr.incAtHl = .incAtHl ∧ State.reset.hl = State.reset.hl ∧ (1 : Nat) = 1 ∧ (1 : Nat) = 1 ∧ (11 : Nat) = 11) ∧
    (Instr.incAtIx d = .incAtIx d ∧ State.reset.ix + sext d = State.reset.ix + sext d) ∧
    (Instr.decAtIy d = .decAtIy d ∧ State.reset.iy + sext d = State.reset.iy + sext d) := by simp

theorem witness_RotateRegisters :
    (Instr.rra, RotOp.rr) ∈ [(Instr.rlca, RotOp.rlc), (.rrca, .rrc), (.rla, .rl), (.rra, .rr)] ∧
    rotRForm (.sllR .a) = some (.sll, .a) := by decide

theorem witness_RotateMemory :
    rotMemForm State.reset (.sraAtIxR 0xFF .b) = some ⟨.sra, 0xFFFF, some .b, 4, 23⟩ ∧
    rotMemForm State.reset .rlcAtHl = some ⟨.rlc, 0, none, 2, 15⟩ ∧
    (Instr.rrd, false) ∈ [(Instr.rld, true), (.rrd, false)] := by decide

theorem witness_BitOperations :
    bitMemForm State.reset (.setAtIyR 7 0x80 .a) = some ⟨true, 7, 0xFF80, some .a, 4, 23⟩ ∧
    bitMemForm State.reset (.resAtHl 0) = some ⟨false, 0, 0, none, 2, 15⟩ := by decide

/-- DJNZ at the two values of B around the end. -/
theorem witness_Jumps : ({ State.reset with main.b := 1 } : State).main.b = 1 ∧ State.reset.main.b ≠ 1 := by decide

/-- A condition that holds and one that does not. -/
theorem witness_CallsAndReturns : State.reset.cond .nz = true ∧ State.reset.cond .z = false := by decide

theorem witness_InputOutput : ({ State.reset with io.answers := [5, 6] } : State).io.answers = 5 :: [6] := rfl

/-- An ignored prefix that goes on, one that is refused (LD (BC),A at RAMCTL), and the completion premises. -/
theorem witness_Prefixes :
    (Instr.nop.ignoresIndex = true ∧ Instr.nop.rowWellFormed = true ∧
      ends (exec .nop { State.reset with pc := State.reset.pc + 1, r := bumpR 1 State.reset.r }) (fun _ => true) = true) ∧
    (Instr.ldAtBcA.ignoresIndex = true ∧ Instr.ldAtBcA.rowWellFormed = true ∧
      isRefused (exec .ldAtBcA { standardCart with pc := 1, r := 1, main.a := 1, main.b := 0xFF, main.c := 0xFC }) = true) ∧
    State.reset.linear = true ∧ storeAddrs standardCart Instr.nop = [] ∧
    storeAddrs standardCart (decode4 0xDD 0x23 0 0).core = [] := by decide

end Sys2Proof.Tests
end

section
/-! SUPPORT. What an instruction, an acceptance and an idle period can do to a state, said once as a relation: registers, byte writes
that are not refused, and messages. The configuration is then one of the things none of these reaches (00_scope R8; 10_state R42). -/

namespace Sys2Proof.Machine

/-! The relation -/

/-- u is s but for its registers, interrupt bits, CYCLES, I/O sequences and draw counter. -/
def State.RegsOnly (s u : State) : Prop :=
  u.store = s.store ∧ u.plane = s.plane ∧ u.params = s.params ∧ u.refused = s.refused

@[simp] theorem State.regsOnly_refl (s : State) : s.RegsOnly s := ⟨rfl, rfl, rfl, rfl⟩

/-! One rule for each writer of registers -/

section
variable (s u : State)

@[simp] theorem State.regsOnly_setMain (v : Bank) : s.RegsOnly (u.setMain v) ↔ s.RegsOnly u := Iff.rfl

@[simp] theorem State.regsOnly_setAlt (v : Bank) : s.RegsOnly (u.setAlt v) ↔ s.RegsOnly u := Iff.rfl

@[simp] theorem State.regsOnly_setIx (v : Word) : s.RegsOnly (u.setIx v) ↔ s.RegsOnly u := Iff.rfl

@[simp] theorem State.regsOnly_setIy (v : Word) : s.RegsOnly (u.setIy v) ↔ s.RegsOnly u := Iff.rfl

@[simp] theorem State.regsOnly_setSp (v : Word) : s.RegsOnly (u.setSp v) ↔ s.RegsOnly u := Iff.rfl

@[simp] theorem State.regsOnly_setPc (v : Word) : s.RegsOnly (u.setPc v) ↔ s.RegsOnly u := Iff.rfl

@[simp] theorem State.regsOnly_setI (v : Byte) : s.RegsOnly (u.setI v) ↔ s.RegsOnly u := Iff.rfl

@[simp] theorem State.regsOnly_setR (v : Byte) : s.RegsOnly (u.setR v) ↔ s.RegsOnly u := Iff.rfl

@[simp] theorem State.regsOnly_setCtl (v : Ctl) : s.RegsOnly (u.setCtl v) ↔ s.RegsOnly u := Iff.rfl

@[simp] theorem State.regsOnly_setCycles (v : Nat) : s.RegsOnly (u.setCycles v) ↔ s.RegsOnly u := Iff.rfl

@[simp] theorem State.regsOnly_setIo (v : Io) : s.RegsOnly (u.setIo v) ↔ s.RegsOnly u := Iff.rfl

@[simp] theorem State.regsOnly_setDraws (v : Nat) : s.RegsOnly (u.setDraws v) ↔ s.RegsOnly u := Iff.rfl

@[simp] theorem State.regsOnly_spend (v : Nat) : s.RegsOnly (u.spend v) ↔ s.RegsOnly u := Iff.rfl

@[simp] theorem State.regsOnly_setA (v : Byte) : s.RegsOnly (u.setA v) ↔ s.RegsOnly u := Iff.rfl

@[simp] theorem State.regsOnly_setF (v : Byte) : s.RegsOnly (u.setF v) ↔ s.RegsOnly u := Iff.rfl

@[simp] theorem State.regsOnly_setHl (v : Word) : s.RegsOnly (u.setHl v) ↔ s.RegsOnly u := Iff.rfl

@[simp] theorem State.regsOnly_drawn : s.RegsOnly u.drawn ↔ s.RegsOnly u := Iff.rfl

@[simp] theorem State.regsOnly_popped : s.RegsOnly u.popped ↔ s.RegsOnly u := Iff.rfl

@[simp] theorem State.regsOnly_return : s.RegsOnly u.return ↔ s.RegsOnly u := Iff.rfl

@[simp] theorem State.regsOnly_returnFromHandler : s.RegsOnly u.returnFromHandler ↔ s.RegsOnly u := Iff.rfl

@[simp] theorem State.regsOnly_setAF (a f : Byte) : s.RegsOnly (u.setAF a f) ↔ s.RegsOnly u := Iff.rfl

@[simp] theorem State.regsOnly_setReg (r : Reg8) (v : Byte) : s.RegsOnly (u.setReg r v) ↔ s.RegsOnly u := Iff.rfl

@[simp] theorem State.regsOnly_fetch (len m1 : Nat) : s.RegsOnly (u.fetch len m1) ↔ s.RegsOnly u := Iff.rfl

@[simp] theorem State.regsOnly_alu (op : AluOp) (v : Byte) : s.RegsOnly (u.alu op v) ↔ s.RegsOnly u := Iff.rfl

@[simp] theorem State.regsOnly_jumpRel (e : Byte) : s.RegsOnly (u.jumpRel e) ↔ s.RegsOnly u := Iff.rfl

@[simp] theorem State.regsOnly_ioReadDone (port : Word) : s.RegsOnly (u.ioReadDone port) ↔ s.RegsOnly u := Iff.rfl

@[simp] theorem State.regsOnly_ioWrite (port : Word) (v : Byte) : s.RegsOnly (u.ioWrite port v) ↔ s.RegsOnly u := Iff.rfl

@[simp] theorem State.regsOnly_setPair (p : Pair) (w : Word) : s.RegsOnly (u.setPair p w) ↔ s.RegsOnly u := by
  simp [State.RegsOnly]

@[simp] theorem State.regsOnly_setPairQ (q : PairQ) (w : Word) : s.RegsOnly (u.setPairQ q w) ↔ s.RegsOnly u := by
  simp [State.RegsOnly]

@[simp] theorem State.regsOnly_setXy (x : Idx) (w : Word) : s.RegsOnly (u.setXy x w) ↔ s.RegsOnly u := by
  simp [State.RegsOnly]

@[simp] theorem State.regsOnly_setHalf (x : Idx) (h : Half) (v : Byte) : s.RegsOnly (u.setHalf x h v) ↔ s.RegsOnly u := by
  simp [State.RegsOnly]

@[simp] theorem State.regsOnly_setRegX (x : Idx) (r : RegX) (v : Byte) : s.RegsOnly (u.setRegX x r v) ↔ s.RegsOnly u := by
  simp [State.RegsOnly]

@[simp] theorem State.regsOnly_copied (c : Option Reg8) (v : Byte) : s.RegsOnly (u.copied c v) ↔ s.RegsOnly u := by
  simp [State.RegsOnly]

@[simp] theorem regsOnly_cpBlock (inc : Word) : s.RegsOnly (cpBlock inc u) ↔ s.RegsOnly u := Iff.rfl

@[simp] theorem regsOnly_outBlock (inc : Word) : s.RegsOnly (outBlock inc u) ↔ s.RegsOnly u := Iff.rfl

end

/-! Effects -/

/-- t comes from s by register changes, byte writes that are not refused and messages (20_memory R71, R83, R93; 60_exceptions R441). -/
inductive State.Effect (s : State) : State → Prop
  | refl : s.Effect s
  | regs {t u : State} : s.Effect t → t.RegsOnly u → s.Effect u
  | write {t : State} (a : Word) (v : Byte) :
      s.Effect t → t.store.mapper.refuses a v = false → s.Effect (t.setStore (t.store.write a v))
  | emit {t : State} (ev : MsgEvent) : s.Effect t → s.Effect (t.emit ev)

theorem State.Effect.trans {s t u : State} (h : s.Effect t) (h' : t.Effect u) : s.Effect u := by
  induction h' with
  | refl => exact h
  | regs _ hr ih => exact ih.regs hr
  | write a v _ hw ih => exact ih.write a v hw
  | emit ev _ ih => exact ih.emit ev

theorem State.RegsOnly.effect {s u : State} (h : s.RegsOnly u := by simp) : s.Effect u := State.Effect.refl.regs h

theorem State.Effect.emitIf {s t : State} (h : s.Effect t) (on : Bool) (ev : MsgEvent) : s.Effect (t.emitIf on ev) := by
  cases on with
  | false => exact h
  | true => exact h.emit ev

/-- Every next state that x answers is an effect on s. -/
def Effects (s : State) (x : Result) : Prop := ∀ t, x = .next t → s.Effect t

/-! Results put together -/

theorem effects_refused (s : State) (e : Refusal) : Effects s (.refused e) := by
  intro t h
  cases h

theorem State.Effect.done {s u : State} (h : s.Effect u) (n : Nat) : Effects s (done n u) := by
  intro t ht
  exact done_eq_next.1 ht ▸ h.regs (by simp)

theorem effects_done {s u : State} {n : Nat} (h : s.RegsOnly u := by simp) : Effects s (done n u) := h.effect.done n

theorem Effects.andThen {s : State} {x : Result} {f : State → Result} (hx : Effects s x) (hf : ∀ u, Effects u (f u)) :
    Effects s (andThen x f) := by
  intro t h
  obtain ⟨u, hu, ht⟩ := andThen_eq_next.1 h
  exact (hx u hu).trans (hf u t ht)

theorem Effects.finish {s : State} {x : Result} (h : Effects s x) (n : Nat) : Effects s (finish n x) :=
  h.andThen fun _ => State.Effect.refl.done n

theorem effects_ite {s : State} {c : Prop} [Decidable c] {x y : Result} (hx : Effects s x) (hy : Effects s y) :
    Effects s (if c then x else y) := by
  split
  · exact hx
  · exact hy

/-- What starts after a change of registers starts at the state before it. -/
theorem Effects.after_regs {s u : State} {x : Result} (h : Effects u x) (hu : s.RegsOnly u := by simp) :
    Effects s x :=
  fun t ht => hu.effect.trans (h t ht)

/-! Writes -/

theorem State.effects_write8 (s : State) (a : Word) (v : Byte) : Effects s (s.write8 a v) := by
  intro t h
  obtain ⟨hr, rfl⟩ := State.write8_eq_next.1 h
  exact (State.Effect.refl.write a v hr).emitIf _ _

theorem State.effects_write16 (s : State) (a v : Word) : Effects s (s.write16 a v) :=
  (s.effects_write8 a (lo v)).andThen fun u => u.effects_write8 (a + 1) (hi v)

theorem State.effects_push16 (s : State) (v : Word) : Effects s (s.push16 v) := by
  unfold State.push16
  refine Effects.andThen ?_ fun u => ?_
  · exact (State.effects_write8 _ _ _).after_regs
  · exact (State.effects_write8 _ _ _).after_regs

theorem State.effects_enterHandler (s : State) (k : Ctl) (vector : State → Word) (n : Nat) :
    Effects s (s.enterHandler k vector n) :=
  (State.effects_push16 _ _).after_regs.andThen fun _ => effects_done

/-! The operations that several meanings share -/

theorem State.effects_incAt (s : State) (a : Word) (n : Nat) : Effects s (s.incAt a n) :=
  (s.effects_write8 a _).andThen fun _ => effects_done

theorem State.effects_decAt (s : State) (a : Word) (n : Nat) : Effects s (s.decAt a n) :=
  (s.effects_write8 a _).andThen fun _ => effects_done

theorem State.effects_writeBack (s : State) (a : Word) (c : Option Reg8) (v : Byte) : Effects s (s.writeBack a c v) := by
  intro t h
  obtain ⟨hr, rfl⟩ := State.writeBack_eq_next.1 h
  have hw : s.Effect (s.wrote a v) := s.effects_write8 a v _ (State.write8_ok hr)
  exact hw.regs (by simp)

theorem State.effects_rotAt (s : State) (op : RotOp) (a : Word) (c : Option Reg8) (n : Nat) : Effects s (s.rotAt op a c n) :=
  (s.effects_writeBack a c _).andThen fun _ => effects_done

theorem State.effects_modifyAt (s : State) (f : Byte → Byte) (a : Word) (c : Option Reg8) (n : Nat) :
    Effects s (s.modifyAt f a c n) :=
  (s.effects_writeBack a c _).finish n

theorem effects_digitRotate (m : Byte) (digit : BitVec 4) (s : State) : Effects s (digitRotate m digit s) :=
  (State.effects_write8 _ _ _).after_regs.andThen fun _ => effects_done

theorem State.effects_call (s : State) (target : Word) (n : Nat) : Effects s (s.call target n) :=
  (s.effects_push16 s.pc).andThen fun _ => effects_done

theorem effects_exAtSpXy (x : Idx) (s : State) : Effects s (exAtSpXy x s) :=
  (State.effects_write16 _ _ _).after_regs.andThen fun _ => effects_done

theorem effects_endIteration (again : Bool) (mask : Byte) (s : State) : Effects s (endIteration again mask s) :=
  effects_ite effects_done effects_done

theorem effects_ldBlock (inc : Word) (s : State) : Effects s (ldBlock inc s) := by
  refine (State.effects_write8 _ _ _).after_regs.andThen fun _ t h => ?_
  cases h
  exact State.RegsOnly.effect

theorem effects_inBlock (inc : Word) (s : State) : Effects s (inBlock inc s) := by
  refine (State.effects_write8 _ _ _).after_regs.andThen fun _ t h => ?_
  cases h
  exact State.RegsOnly.effect

theorem effects_undefinedEd (op : Byte) (s : State) : Effects s (undefinedEd op s) :=
  ((State.RegsOnly.effect).emitIf _ _).done 8

theorem effects_lonePrefix (pfx : Byte) (s : State) : Effects s (lonePrefix pfx s) :=
  ((State.RegsOnly.effect).emitIf _ _).done 4

/-! Instructions -/

/-- Every row, by what it reaches: first the rows that write memory, repeat, emit a message or have no meaning of their own; the rest change
registers only. -/
theorem effects_runRow (i : Instr) (s : State) : Effects s (runRow i s) := by
  cases i
  case ldAtBcA | ldAtDeA | ldAtNnA | ldAtHlR | ldAtHlN | ldAtIxR | ldAtIxN | ldAtIyR | ldAtIyN =>
    exact (State.effects_write8 _ _ _).after_regs.finish _
  case ldAtNnHl | ldAtNnDd | ldAtNnIx | ldAtNnIy =>
    exact (State.effects_write16 _ _ _).after_regs.finish _
  case pushQq | pushIx | pushIy =>
    exact (State.effects_push16 _ _).after_regs.finish _
  case exAtSpHl =>
    exact (State.effects_write16 _ _ _).after_regs.andThen fun _ => effects_done
  case exAtSpIx | exAtSpIy => exact effects_exAtSpXy _ s
  case incAtHl | incAtIx | incAtIy => exact (State.effects_incAt _ _ _).after_regs
  case decAtHl | decAtIx | decAtIy => exact (State.effects_decAt _ _ _).after_regs
  case rlcAtHl | rrcAtHl | rlAtHl | rrAtHl | slaAtHl | sraAtHl | sllAtHl | srlAtHl
      | rlcAtIx | rrcAtIx | rlAtIx | rrAtIx | slaAtIx | sraAtIx | sllAtIx | srlAtIx
      | rlcAtIxR | rrcAtIxR | rlAtIxR | rrAtIxR | slaAtIxR | sraAtIxR | sllAtIxR | srlAtIxR
      | rlcAtIy | rrcAtIy | rlAtIy | rrAtIy | slaAtIy | sraAtIy | sllAtIy | srlAtIy
      | rlcAtIyR | rrcAtIyR | rlAtIyR | rrAtIyR | slaAtIyR | sraAtIyR | sllAtIyR | srlAtIyR =>
    exact (State.effects_rotAt _ _ _ _ _).after_regs
  case resAtHl | setAtHl | resAtIx | setAtIx | resAtIxR | setAtIxR | resAtIy | setAtIy | resAtIyR | setAtIyR =>
    unfold runRow -- or unification meets a non-pattern application of the byte function and runs away
    exact (State.effects_modifyAt _ _ _ _ _).after_regs
  case rld | rrd => exact effects_digitRotate _ _ s
  case callNn | rst => exact (State.effects_call _ _ _).after_regs
  case callCcNn =>
    exact effects_ite (State.effects_call _ _ _).after_regs effects_done
  case ldi | ldd => exact (effects_ldBlock _ s).finish 16
  case ini | ind => exact (effects_inBlock _ s).finish 16
  case ldir | lddr => exact (effects_ldBlock _ s).andThen fun u => effects_endIteration _ _ u
  case inir | indr => exact (effects_inBlock _ s).andThen fun u => effects_endIteration _ _ u
  case cpir | cpdr | otir | otdr => exact (effects_endIteration _ _ _).after_regs
  case nopEd0 | nopEd2 | nopEd3 | nopEd7 => exact effects_undefinedEd _ s
  case loneDd | loneFd => exact effects_lonePrefix _ s
  case prefixCb | prefixDd | prefixEd | prefixFd | prefixDdCb | prefixFdCb | ignoredDd | ignoredFd =>
    exact effects_refused s _
  case jrCc | jpCcNn | retCc | djnz => exact effects_ite effects_done effects_done
  all_goals exact effects_done

theorem effects_ignoredPrefix (pfx : Byte) (base : Instr) (s : State) : Effects s (ignoredPrefix pfx base s) := by
  refine effects_ite ?_ (effects_refused s _)
  exact (effects_runRow base _).after_regs.andThen fun _ => (State.Effect.refl.emitIf _ _).done 4

theorem effects_runSelected (i : Instr) (s : State) : Effects s (runSelected i s) := by
  unfold runSelected
  split
  · exact effects_ignoredPrefix _ _ s
  · exact effects_ignoredPrefix _ _ s
  · exact effects_runRow _ s

theorem effects_exec (i : Instr) (s : State) : Effects s (exec i s) := by
  have hrow : Effects s (runRow i s) := effects_runRow i s
  cases i
  case prefixCb | prefixDd | prefixEd | prefixFd | prefixDdCb | prefixFdCb => exact effects_runSelected _ s
  case ignoredDd | ignoredFd => exact effects_ignoredPrefix _ _ s
  all_goals exact hrow

/-! The engine step -/

theorem State.effects_acceptInt (s : State) : Effects s s.acceptInt := by
  unfold State.acceptInt
  split
  · exact effects_ite (s.effects_enterHandler _ _ _) (effects_refused s _)
  · exact s.effects_enterHandler _ _ _
  · exact s.effects_enterHandler _ _ _

/-- Whatever the kind of a step, its own effect is one (60_exceptions R420). -/
theorem State.effects_act (s : State) (k : StepKind) : Effects s (s.act k) := by
  cases k with
  | nmiAccept => exact s.effects_enterHandler _ _ _
  | intAccept => exact s.effects_acceptInt
  | idle => exact effects_done
  | instr => exact effects_exec _ s

end Sys2Proof.Machine
end

section
/-! PROOF. The family 00_scope: no step changes the configuration. -/

namespace Sys2Proof.Machine

/-- The configuration a state carries: image, image length, RAM size, mapper kind and parameters (00_scope R8; 10_state R42). -/
def State.configuration (s : State) : Memory × Nat × Nat × MapperKind × Params :=
  (s.store.rom, s.store.romLen, s.store.ramSize, s.store.mapper.kind, s.params)

theorem State.configuration_eq_iff {s t : State} :
    t.configuration = s.configuration ↔
      t.store.rom = s.store.rom ∧ t.store.romLen = s.store.romLen ∧ t.store.ramSize = s.store.ramSize ∧
        t.store.mapper.kind = s.store.mapper.kind ∧ t.params = s.params := by
  simp [State.configuration]

theorem State.RegsOnly.configuration {s u : State} (h : s.RegsOnly u) : u.configuration = s.configuration := by
  obtain ⟨hstore, _, hparams, _⟩ := h
  unfold State.configuration
  rw [hstore, hparams]

/-- A byte write reaches RAM bytes and mapper registers, never the configuration (20_memory R71, R82, R92). -/
theorem State.configuration_setStore_write (s : State) (a : Word) (v : Byte) :
    (s.setStore (s.store.write a v)).configuration = s.configuration := by
  simp [State.configuration]

theorem State.Effect.configuration {s t : State} (h : s.Effect t) : t.configuration = s.configuration := by
  induction h with
  | refl => rfl
  | regs _ hr ih => exact hr.configuration.trans ih
  | write a v _ _ ih => exact (State.configuration_setStore_write _ a v).trans ih
  | emit _ _ ih => exact ih

/-! The tick: the debug plane is no part of the configuration -/

theorem State.configuration_setDebug (s : State) (g : Debug) : (s.setDebug g).configuration = s.configuration := rfl

theorem State.configuration_dispatch (s : State) : s.dispatch.configuration = s.configuration := by
  rw [State.dispatch_eq]
  rfl

theorem State.configuration_afterStep (b : Bool) (s : State) : (s.afterStep b).configuration = s.configuration := by
  rw [State.afterStep_eq]
  rfl

theorem State.configuration_engineStep {s t : State} (h : s.engineStep = .next t) : t.configuration = s.configuration := by
  obtain ⟨_, rfl⟩ | ⟨_, hact⟩ | ⟨_, _, _, _, rfl⟩ := State.engineStep_eq_next.1 h
  · rfl
  · exact (State.effects_act _ _ t hact).configuration
  · rfl

theorem State.configuration_stepInTick {s t : State} (h : s.stepInTick = .next t) : t.configuration = s.configuration := by
  obtain ⟨u, hu, rfl⟩ := State.stepInTick_eq_next.1 h
  exact (State.configuration_afterStep _ u).trans (State.configuration_engineStep hu)

theorem State.configuration_runTick {s t : State} (h : s.runTick = .next t) : t.configuration = s.configuration := by
  obtain ⟨_, rfl⟩ | ⟨_, _, ⟨_, hstep⟩ | ⟨_, _, hstep⟩ | ⟨_, _, _, rfl⟩ | ⟨_, _, _, hstep⟩⟩ := State.runTick_eq_next.1 h
  · rfl
  · exact State.configuration_stepInTick hstep
  · exact (State.configuration_stepInTick hstep).trans (State.configuration_setDebug s _)
  · rfl
  · exact State.configuration_stepInTick hstep

theorem configuration_step {s t : State} (h : step s = .next t) : t.configuration = s.configuration :=
  (State.configuration_runTick h).trans s.configuration_dispatch

/-- Settles O13: the engine step's effect keeps the configuration, and the rest of a tick changes the debug plane alone. -/
theorem configurationIsFixed : Obligations.ConfigurationIsFixed := fun _ _ h =>
  State.configuration_eq_iff.1 (configuration_step h)

end Sys2Proof.Machine
end

section
/-! SUPPORT. Where an address leads, window by window (20_memory R75, R81, R91, R96). -/

namespace Sys2Proof.Machine

section
variable {st : Store} {addr : Word}

theorem Store.locate_of_system (h : 0xC000 ≤ addr.toNat) : st.locate addr = .ram ((addr.toNat - 0xC000) % st.ramSize) :=
  if_pos h

theorem Store.locate_of_standard {g : StandardRegs} (hm : st.mapper = .standard g) (h : addr.toNat < 0xC000) :
    st.locate addr = st.locateStandard g addr.toNat := by
  simp [Store.locate, hm, Nat.not_le.2 h]

theorem Store.locate_of_codeMasters {g : CodeMastersRegs} (hm : st.mapper = .codeMasters g) (h : addr.toNat < 0xC000) :
    st.locate addr = st.locateCodeMasters g addr.toNat := by
  simp [Store.locate, hm, Nat.not_le.2 h]

theorem Store.locate_of_linear (hm : st.mapper = .sg1000 ∨ st.mapper = .noMapper) (h : addr.toNat < 0xC000) :
    st.locate addr = st.locateLinear addr := by
  obtain hm | hm := hm <;> simp [Store.locate, hm, Nat.not_le.2 h]

end

section
variable (st : Store) (g : StandardRegs) {a : Nat}

theorem Store.locateStandard_fixed (h : a < 0x0400) : st.locateStandard g a = .rom a := if_pos h

theorem Store.locateStandard_window0 (h : 0x0400 ≤ a) (h' : a < 0x4000) :
    st.locateStandard g a = .rom (st.page g.bank0 a) := by
  simp [Store.locateStandard, Nat.not_lt.2 h, h']

theorem Store.locateStandard_window1 (h : 0x4000 ≤ a) (h' : a < 0x8000) :
    st.locateStandard g a = .rom (st.page g.bank1 (a - 0x4000)) := by
  simp [Store.locateStandard, show ¬ a < 0x0400 by omega, Nat.not_lt.2 h, h']

/-- RAMCTL[3] chooses between ROM and cartridge RAM, RAMCTL[2] the bank of cartridge RAM. -/
theorem Store.locateStandard_window2 (h : 0x8000 ≤ a) :
    st.locateStandard g a =
      if g.ramctl.getLsbD 3 then .cart ((g.ramctl.getLsbD 2).toNat * 16384 + (a - 0x8000))
      else .rom (st.page g.bank2 (a - 0x8000)) := by
  rw [Store.locateStandard, if_neg (by omega), if_neg (by omega), if_neg (by omega)]
  cases g.ramctl.getLsbD 2 <;> simp [Config.pageSize]

end

section
variable (st : Store) (g : CodeMastersRegs) {a : Nat}

theorem Store.locateCodeMasters_window0 (h : a < 0x4000) : st.locateCodeMasters g a = .rom (st.page g.cm0 (a % 16384)) := by
  simp [Store.locateCodeMasters, h, Nat.mod_eq_of_lt h]

theorem Store.locateCodeMasters_window1 (h : 0x4000 ≤ a) (h' : a < 0x8000) :
    st.locateCodeMasters g a = .rom (st.page g.cm1 (a % 16384)) := by
  have off : a - 0x4000 = a % 16384 := by omega
  simp [Store.locateCodeMasters, Nat.not_lt.2 h, h', off]

theorem Store.locateCodeMasters_window2 (h : 0x8000 ≤ a) (h' : a < 0xC000) :
    st.locateCodeMasters g a = .rom (st.page g.cm2 (a % 16384)) := by
  have off : a - 0x8000 = a % 16384 := by omega
  simp [Store.locateCodeMasters, show ¬ a < 0x4000 by omega, Nat.not_lt.2 h, off]

theorem Store.writable_locateCodeMasters : (st.locateCodeMasters g a).writable = false := by
  unfold Store.locateCodeMasters
  split
  · rfl
  · split <;> rfl

end

theorem Store.read_eq_of_locate {st : Store} {addr : Word} {l : Loc} (h : st.locate addr = l) : st.read addr = st.readLoc l := by
  rw [Store.read, h]

end Sys2Proof.Machine
end

section
/-! PROOF. The family 20_memory: the read map, one byte write, and the control writes. -/

namespace Sys2Proof.Machine

/-- Settles O23, window by window. -/
theorem readMap : Obligations.ReadMap := by
  intro st addr a
  refine ⟨?system, ?standard, ?codeMasters, ?linear⟩
  case system => exact fun h => Store.read_eq_of_locate (Store.locate_of_system h)
  case standard =>
    intro g hm
    have below (h : a < 0xC000) {l : Loc} (hl : st.locateStandard g a = l) : st.read addr = st.readLoc l :=
      Store.read_eq_of_locate ((Store.locate_of_standard hm h).trans hl)
    refine ⟨fun h => ?_, fun h h' => ?_, fun h h' => ?_, fun h h' => ⟨fun hc => ?_, fun hc => ?_⟩⟩
    · exact below (by omega) (st.locateStandard_fixed g h)
    · exact below (by omega) (st.locateStandard_window0 g h h')
    · exact below (by omega) (st.locateStandard_window1 g h h')
    · exact below h' ((st.locateStandard_window2 g h).trans (if_pos hc))
    · exact below h' ((st.locateStandard_window2 g h).trans (if_neg (Bool.eq_false_iff.1 hc)))
  case codeMasters =>
    intro g hm
    have below (h : a < 0xC000) {l : Loc} (hl : st.locateCodeMasters g a = l) : st.read addr = st.readLoc l :=
      Store.read_eq_of_locate ((Store.locate_of_codeMasters hm h).trans hl)
    refine ⟨fun h => ?_, fun h h' => ?_, fun h h' => ?_⟩
    · exact below (by omega) (st.locateCodeMasters_window0 g h)
    · exact below (by omega) (st.locateCodeMasters_window1 g h h')
    · exact below h' (st.locateCodeMasters_window2 g h h')
  case linear =>
    refine fun hm => ⟨fun h hl => ?_, fun h hl => ?_⟩
    · exact Store.read_eq_of_locate ((Store.locate_of_linear hm h).trans (if_pos hl))
    · exact Store.read_eq_of_locate ((Store.locate_of_linear hm h).trans (if_neg (Nat.not_lt.2 hl)))

/-- Settles O24: the write sets BANK2 alone, and the read map of O23 gives what window 2 then shows. -/
theorem windowTwoShowsThePageWritten : Obligations.WindowTwoShowsThePageWritten := by
  intro s t g p addr hm h hlo hhi
  obtain ⟨_, rfl⟩ := State.write8_eq_next.1 h
  have hmapper : (s.store.write 0xFFFF p).mapper = .standard { g with bank2 := p } := by
    rw [Store.mapper_write, hm]
    rfl
  have hcart : (s.store.write 0xFFFF p).cart = s.store.cart := by
    rw [Store.write, Store.locate_of_system (by decide), Store.writeLoc]
  obtain ⟨_, hstandard, _⟩ := readMap (s.store.write 0xFFFF p) addr
  obtain ⟨_, _, _, hwindow⟩ := hstandard _ hmapper
  obtain ⟨hram, hrom⟩ := hwindow hlo hhi
  rw [State.read8, State.store_wrote]
  refine ⟨fun hc => ?_, fun hc => ?_⟩
  · rw [hrom hc, Store.rom_write, Store.romLen_write]
  · rw [hram hc, hcart]

/-- A write at no control address leaves the reads of addresses that lead elsewhere as they were (20_memory R71). -/
theorem Store.read_write_other (st : Store) {a b : Word} {v : Byte} (hc : st.mapper.control a v = none)
    (hb : st.locate b ≠ st.locate a) : (st.write a v).read b = st.read b := by
  rw [Store.read, Store.read, st.locate_write a b v hc, st.readLoc_write_other a v _ hb]

/-- Settles O25, by the laws of one write. -/
theorem readAfterWrite : Obligations.ReadAfterWrite := by
  intro s t a v h
  obtain ⟨_, rfl⟩ := State.write8_eq_next.1 h
  rw [State.store_wrote]
  refine ⟨fun hw => ?_, s.store.write_ignored a v, s.store.readLoc_write_other a v, fun b hc hb => ?_, ?_⟩
  · rw [State.read8, State.store_wrote, s.store.read_write_same a v hw]
  · rw [State.read8, State.store_wrote, s.store.read_write_other hc hb, State.read8]
  · rw [← State.store_wrote]
    exact State.wrote_congr s a v s rfl rfl rfl

/-! Control writes (20_memory R82, R83, R92, R93, R97) -/

theorem State.write8_eq_refused {s : State} {a : Word} {v : Byte} :
    s.write8 a v = .refused .unmodelledMapperControl ↔ s.store.mapper.refuses a v = true := by
  cases h : s.store.mapper.refuses a v with
  | true => simp [State.write8_refused h]
  | false => simp [State.write8_ok h]

theorem Mapper.refuses_iff (m : Mapper) (a : Word) (v : Byte) :
    m.refuses a v = true ↔
      (m.kind = .standard ∧ a = 0xFFFC ∧ (v.getLsbD 0 = true ∨ v.getLsbD 1 = true ∨ v.getLsbD 4 = true)) ∨
      (m.kind = .codeMasters ∧ a = 0x4000 ∧ v.getLsbD 7 = true) := by
  cases m <;> simp [Mapper.refuses, Mapper.kind, or_assoc]

/-- The registers of the Standard mapper after a write: each at its own address (20_memory R82). -/
theorem Mapper.getD_control_standard (g : StandardRegs) (a : Word) (v : Byte) :
    ((Mapper.standard g).control a v).getD (.standard g) = .standard
      { ramctl := if a = 0xFFFC then v else g.ramctl
        bank0 := if a = 0xFFFD then v else g.bank0
        bank1 := if a = 0xFFFE then v else g.bank1
        bank2 := if a = 0xFFFF then v else g.bank2 } := by
  by_cases h0 : a = 0xFFFC
  · subst h0; rfl
  by_cases h1 : a = 0xFFFD
  · subst h1; rfl
  by_cases h2 : a = 0xFFFE
  · subst h2; rfl
  by_cases h3 : a = 0xFFFF
  · subst h3; rfl
  simp only [Mapper.control, if_neg h0, if_neg h1, if_neg h2, if_neg h3, Option.getD_none]

/-- The registers of the CodeMasters mapper after a write: each at its own address (20_memory R92). -/
theorem Mapper.getD_control_codeMasters (g : CodeMastersRegs) (a : Word) (v : Byte) :
    ((Mapper.codeMasters g).control a v).getD (.codeMasters g) = .codeMasters
      { cm0 := if a = 0x0000 then v else g.cm0
        cm1 := if a = 0x4000 then v else g.cm1
        cm2 := if a = 0x8000 then v else g.cm2 } := by
  by_cases h0 : a = 0x0000
  · subst h0; rfl
  by_cases h1 : a = 0x4000
  · subst h1; rfl
  by_cases h2 : a = 0x8000
  · subst h2; rfl
  simp only [Mapper.control, if_neg h0, if_neg h1, if_neg h2, Option.getD_none]

theorem State.linear_iff (s : State) : s.linear = true ↔ s.store.mapper = .sg1000 ∨ s.store.mapper = .noMapper := by
  simp [State.linear]

/-- Settles O26, by what the mapper refuses and the registers each kind then has. -/
theorem controlWrites : Obligations.ControlWrites := by
  intro s a v
  refine ⟨State.write8_eq_refused.trans (Mapper.refuses_iff _ a v), fun t h => ?_⟩
  obtain ⟨_, rfl⟩ := State.write8_eq_next.1 h
  rw [State.store_wrote, Store.mapper_write]
  refine ⟨fun g hm => ?_, fun g hm => ?_, fun hl => ?_⟩
  · rw [hm, Mapper.getD_control_standard]
  · rw [hm, Mapper.getD_control_codeMasters]
  · obtain hm | hm := s.linear_iff.1 hl <;> rw [hm] <;> rfl

end Sys2Proof.Machine
end

section
/-! SUPPORT. Which addresses an instruction writes: for every row, the addresses of `storeAddrs`, in order, and nothing else
reaches the store (00_scope R11; 20_memory R71, R72). -/

namespace Sys2Proof.Machine

/-! Writes one after the other -/

/-- A write leaves every byte that cannot be written alone. -/
theorem Store.readLoc_write_of_not_writable (st : Store) (a : Word) (v : Byte) {l : Loc} (h : l.writable = false) :
    (st.write a v).readLoc l = st.readLoc l := by
  cases l with
  | rom off => exact congrArg (Memory.read · off) (st.rom_write a v)
  | unmapped => rfl
  | ram | cart => cases h

/-- The control addresses of the Standard mapper are the last four (20_memory R82). -/
theorem Mapper.le_of_control_standard {g : StandardRegs} {a : Word} {v : Byte} {m : Mapper}
    (h : (Mapper.standard g).control a v = some m) : 0xFFFC ≤ a.toNat := by
  refine Nat.le_of_not_lt fun hlt => ?_
  have hne (b : Word) (hb : 0xFFFC ≤ b.toNat) : ¬ a = b := fun hab => Nat.not_le_of_lt hlt (hab ▸ hb)
  have hnone : (Mapper.standard g).control a v = none := by
    simp only [Mapper.control, if_neg (hne 0xFFFC (by decide)), if_neg (hne 0xFFFD (by decide)),
      if_neg (hne 0xFFFE (by decide)), if_neg (hne 0xFFFF (by decide))]
  cases hnone.symm.trans h

/-- An address just before or behind a control address of a banked kind leads to no RAM below 0xC000, whatever the registers: the
CodeMasters mapper has no cartridge RAM, and on the Standard mapper the address is 0x0000 (20_memory R81, R82, R91). -/
theorem Store.not_writable_of_control_neighbour {st st' : Store} {a b : Word} {v : Byte} {m : Mapper}
    (hc : st.mapper.control a v = some m) (hk : st'.mapper.kind = st.mapper.kind) (hb : b = a + 1 ∨ b = a - 1)
    (hlow : b.toNat < 0xC000) : (st'.locate b).writable = false := by
  cases hm' : st'.mapper with
  | standard g' =>
    cases hm : st.mapper with
    | standard g =>
      have ha : 0xFFFC ≤ a.toNat := Mapper.le_of_control_standard (hm ▸ hc)
      have hzero : b.toNat < 0x0400 := by
        obtain rfl | rfl := hb <;> bv_omega
      rw [Store.locate_of_standard hm' hlow, Store.locateStandard_fixed _ _ hzero]
      rfl
    | codeMasters | sg1000 | noMapper => simp [hm, hm', Mapper.kind] at hk
  | codeMasters g' =>
    rw [Store.locate_of_codeMasters hm' hlow]
    exact st'.writable_locateCodeMasters g'
  | sg1000 | noMapper =>
    rw [Store.locate_of_linear (by simp [hm']) hlow, Store.locateLinear]
    split <;> rfl

/-- An address just before or behind the one written leads, where it leads to RAM after the write, to where it led before. -/
theorem Store.locate_write_neighbour (st : Store) {a b : Word} (v : Byte) (hb : b = a + 1 ∨ b = a - 1)
    (hw : ((st.write a v).locate b).writable = true) : (st.write a v).locate b = st.locate b := by
  by_cases hsys : 0xC000 ≤ b.toNat
  · rw [Store.locate_of_system hsys, Store.locate_of_system hsys, Store.ramSize_write]
  cases hc : st.mapper.control a v with
  | none => exact st.locate_write a b v hc
  | some m =>
    have hnot := Store.not_writable_of_control_neighbour hc (st.kind_write a v) hb (Nat.not_le.1 hsys)
    exact absurd hw (Bool.eq_false_iff.1 hnot)

/-- st' comes from st by one byte write at each of the addresses, in order: none, one, or two at neighbouring addresses. -/
inductive Store.WrittenAt (st : Store) : List Word → Store → Prop
  | nil : st.WrittenAt [] st
  | single (a : Word) (v : Byte) : st.WrittenAt [a] (st.write a v)
  | pair (a b : Word) (v w : Byte) : b = a + 1 ∨ b = a - 1 → st.WrittenAt [a, b] ((st.write a v).write b w)

section
variable {st st' : Store} {as : List Word}

theorem Store.writtenAt_nil (h : st.WrittenAt [] st') : st' = st := by
  cases h
  rfl

theorem Store.WrittenAt.readLoc_other (h : st.WrittenAt as st') {l : Loc} (hl : l ∉ as.map st.locate) :
    st'.readLoc l = st.readLoc l := by
  cases h with
  | nil => rfl
  | single a v => exact st.readLoc_write_other a v l (by simpa using hl)
  | pair a b v w hb =>
    obtain ⟨ha, hb'⟩ : l ≠ st.locate a ∧ l ≠ st.locate b := by simpa using hl
    rw [← st.readLoc_write_other a v l ha]
    cases hw : l.writable with
    | false => exact (st.write a v).readLoc_write_of_not_writable b w hw
    | true =>
      refine (st.write a v).readLoc_write_other b w l ?_
      rintro rfl
      exact hb' (st.locate_write_neighbour v hb hw)

/-- Writes at no control address leave the translation as it was. -/
theorem Store.WrittenAt.locate_of_plain (h : st.WrittenAt as st') (hp : ∀ a ∈ as, st.mapper.plain a) (x : Word) :
    st'.locate x = st.locate x := by
  cases h with
  | nil => rfl
  | single a v => exact st.locate_write a x v (hp a (by simp) v)
  | pair a b v w =>
    have ha : st.mapper.control a v = none := hp a (by simp) v
    have hm : (st.write a v).mapper = st.mapper := by rw [Store.mapper_write, ha, Option.getD_none]
    have hb : (st.write a v).mapper.control b w = none := hm ▸ hp b (by simp) w
    exact ((st.write a v).locate_write b x w hb).trans (st.locate_write a x v ha)

end

/-! Results put together -/

/-- Every next state that x answers has the store of s with the given addresses written. -/
def StoresAt (s : State) (as : List Word) (x : Result) : Prop := ∀ t, x = .next t → s.store.WrittenAt as t.store

theorem storesAt_done_of_store {s u : State} {n : Nat} (h : u.store = s.store) : StoresAt s [] (done n u) := by
  intro t ht
  rw [← done_eq_next.1 ht, State.store_spend, h]
  exact .nil

theorem storesAt_done {s u : State} {n : Nat} (h : s.RegsOnly u := by simp) : StoresAt s [] (done n u) := by
  obtain ⟨hstore, _⟩ := h
  exact storesAt_done_of_store hstore

theorem storesAt_refused (s : State) (as : List Word) (e : Refusal) : StoresAt s as (.refused e) := by
  intro t h
  cases h

/-- What follows the writes changes no store. -/
theorem StoresAt.andThen {s : State} {as : List Word} {x : Result} {f : State → Result} (hx : StoresAt s as x)
    (hf : ∀ u, StoresAt u [] (f u)) : StoresAt s as (andThen x f) := by
  intro t h
  obtain ⟨u, hu, ht⟩ := andThen_eq_next.1 h
  exact Store.writtenAt_nil (hf u t ht) ▸ hx u hu

theorem StoresAt.finish {s : State} {as : List Word} {x : Result} (h : StoresAt s as x) (n : Nat) : StoresAt s as (finish n x) :=
  h.andThen fun _ => storesAt_done

theorem storesAt_ite {s : State} {c : Prop} [Decidable c] {as : List Word} {x y : Result} (hx : StoresAt s as x)
    (hy : StoresAt s as y) : StoresAt s as (if c then x else y) := by
  split
  · exact hx
  · exact hy

/-- What starts after a change of registers starts at the state before it. -/
theorem StoresAt.after_regs {s u : State} {as : List Word} {x : Result} (h : StoresAt u as x) (hu : s.RegsOnly u := by simp) :
    StoresAt s as x := by
  obtain ⟨hstore, _⟩ := hu
  exact fun t ht => hstore ▸ h t ht

/-! Operations -/

theorem State.storesAt_write8 (s : State) (a : Word) (v : Byte) : StoresAt s [a] (s.write8 a v) := by
  intro t h
  obtain ⟨_, rfl⟩ := State.write8_eq_next.1 h
  exact s.store_wrote a v ▸ .single a v

theorem State.storesAt_write16 (s : State) (a v : Word) : StoresAt s [a, a + 1] (s.write16 a v) := by
  intro t h
  obtain ⟨_, rfl⟩ := State.write16_eq_next.1 h
  exact s.store_wroteWord a v ▸ .pair a (a + 1) _ _ (.inl rfl)

theorem State.storesAt_push16 (s : State) (v : Word) : StoresAt s [s.sp - 1, s.sp - 2] (s.push16 v) := by
  intro t h
  obtain ⟨_, rfl⟩ := State.push16_eq_next.1 h
  exact s.store_pushed v ▸ .pair (s.sp - 1) (s.sp - 2) _ _ (.inr (by bv_omega))

theorem State.storesAt_incAt (s : State) (a : Word) (n : Nat) : StoresAt s [a] (s.incAt a n) :=
  (s.storesAt_write8 a _).andThen fun _ => storesAt_done

theorem State.storesAt_decAt (s : State) (a : Word) (n : Nat) : StoresAt s [a] (s.decAt a n) :=
  (s.storesAt_write8 a _).andThen fun _ => storesAt_done

theorem State.storesAt_writeBack (s : State) (a : Word) (c : Option Reg8) (v : Byte) : StoresAt s [a] (s.writeBack a c v) := by
  intro t h
  obtain ⟨_, rfl⟩ := State.writeBack_eq_next.1 h
  rw [State.store_copied, State.store_wrote]
  exact .single a v

theorem State.storesAt_rotAt (s : State) (op : RotOp) (a : Word) (c : Option Reg8) (n : Nat) :
    StoresAt s [a] (s.rotAt op a c n) :=
  (s.storesAt_writeBack a c _).andThen fun _ => storesAt_done

theorem State.storesAt_modifyAt (s : State) (f : Byte → Byte) (a : Word) (c : Option Reg8) (n : Nat) :
    StoresAt s [a] (s.modifyAt f a c n) :=
  (s.storesAt_writeBack a c _).finish n

theorem storesAt_digitRotate (m : Byte) (digit : BitVec 4) (s : State) : StoresAt s [s.hl] (digitRotate m digit s) :=
  (State.storesAt_write8 _ _ _).after_regs.andThen fun _ => storesAt_done

theorem State.storesAt_call (s : State) (target : Word) (n : Nat) : StoresAt s [s.sp - 1, s.sp - 2] (s.call target n) :=
  (s.storesAt_push16 s.pc).andThen fun _ => storesAt_done

/-- CALL cc,nn stores where the condition holds (46_control_transfer R328). -/
theorem storesAt_execCallCcNn (cc : Cond) (nn : Word) (s : State) :
    StoresAt s (if s.cond cc then [s.sp - 1, s.sp - 2] else []) (execCallCcNn cc nn s) := by
  unfold execCallCcNn
  cases s.cond cc with
  | true => exact (State.storesAt_call _ _ _).after_regs
  | false => exact storesAt_done

theorem storesAt_exAtSpXy (x : Idx) (s : State) : StoresAt s [s.sp, s.sp + 1] (exAtSpXy x s) :=
  (State.storesAt_write16 _ _ _).after_regs.andThen fun _ => storesAt_done

theorem storesAt_endIteration (again : Bool) (mask : Byte) (s : State) : StoresAt s [] (endIteration again mask s) :=
  storesAt_ite storesAt_done storesAt_done

theorem storesAt_ldBlock (inc : Word) (s : State) : StoresAt s [s.de] (ldBlock inc s) := by
  refine (State.storesAt_write8 _ _ _).after_regs.andThen fun _ t h => ?_
  cases h
  exact .nil

theorem storesAt_inBlock (inc : Word) (s : State) : StoresAt s [s.hl] (inBlock inc s) := by
  refine (State.storesAt_write8 _ _ _).after_regs.andThen fun _ t h => ?_
  cases h
  exact .nil

theorem storesAt_undefinedEd (op : Byte) (s : State) : StoresAt s [] (undefinedEd op s) :=
  storesAt_done_of_store (by simp)

theorem storesAt_lonePrefix (pfx : Byte) (s : State) : StoresAt s [] (lonePrefix pfx s) :=
  storesAt_done_of_store (by simp)

/-! Instructions -/

/-- Every row: first those that store, then those that repeat, choose or have no meaning of their own; the rest store nothing. -/
theorem storesAt_runRow (i : Instr) (s : State) : StoresAt s (storeAddrs s i) (runRow i s) := by
  cases i
  case ldAtBcA | ldAtDeA | ldAtNnA | ldAtHlR | ldAtHlN | ldAtIxR | ldAtIxN | ldAtIyR | ldAtIyN =>
    exact (State.storesAt_write8 _ _ _).after_regs.finish _
  case ldAtNnHl | ldAtNnDd | ldAtNnIx | ldAtNnIy =>
    exact (State.storesAt_write16 _ _ _).after_regs.finish _
  case pushQq | pushIx | pushIy =>
    exact (State.storesAt_push16 _ _).after_regs.finish _
  case exAtSpHl =>
    exact (State.storesAt_write16 _ _ _).after_regs.andThen fun _ => storesAt_done
  case exAtSpIx | exAtSpIy => exact storesAt_exAtSpXy _ s
  case incAtHl | incAtIx | incAtIy => exact (State.storesAt_incAt _ _ _).after_regs
  case decAtHl | decAtIx | decAtIy => exact (State.storesAt_decAt _ _ _).after_regs
  case rlcAtHl | rrcAtHl | rlAtHl | rrAtHl | slaAtHl | sraAtHl | sllAtHl | srlAtHl
      | rlcAtIx | rrcAtIx | rlAtIx | rrAtIx | slaAtIx | sraAtIx | sllAtIx | srlAtIx
      | rlcAtIxR | rrcAtIxR | rlAtIxR | rrAtIxR | slaAtIxR | sraAtIxR | sllAtIxR | srlAtIxR
      | rlcAtIy | rrcAtIy | rlAtIy | rrAtIy | slaAtIy | sraAtIy | sllAtIy | srlAtIy
      | rlcAtIyR | rrcAtIyR | rlAtIyR | rrAtIyR | slaAtIyR | sraAtIyR | sllAtIyR | srlAtIyR =>
    exact (State.storesAt_rotAt _ _ _ _ _).after_regs
  case resAtHl | setAtHl | resAtIx | setAtIx | resAtIxR | setAtIxR | resAtIy | setAtIy | resAtIyR | setAtIyR =>
    unfold runRow -- the byte function of `modifyAt` must stand syntactically in the goal to be unified
    exact (State.storesAt_modifyAt _ _ _ _ _).after_regs
  case rld | rrd => exact storesAt_digitRotate _ _ s
  case callNn | rst => exact (State.storesAt_call _ _ _).after_regs
  case callCcNn => exact storesAt_execCallCcNn _ _ s
  case ldi | ldd => exact (storesAt_ldBlock _ s).finish 16
  case ini | ind => exact (storesAt_inBlock _ s).finish 16
  case ldir | lddr => exact (storesAt_ldBlock _ s).andThen fun u => storesAt_endIteration _ _ u
  case inir | indr => exact (storesAt_inBlock _ s).andThen fun u => storesAt_endIteration _ _ u
  case cpir | cpdr | otir | otdr => exact (storesAt_endIteration _ _ _).after_regs
  case nopEd0 | nopEd2 | nopEd3 | nopEd7 => exact storesAt_undefinedEd _ s
  case loneDd | loneFd => exact storesAt_lonePrefix _ s
  case prefixCb | prefixDd | prefixEd | prefixFd | prefixDdCb | prefixFdCb | ignoredDd | ignoredFd =>
    exact storesAt_refused s _ _
  case jrCc | jpCcNn | retCc | djnz => exact storesAt_ite storesAt_done storesAt_done
  all_goals exact storesAt_done

theorem storeAddrs_fetch (s : State) (len m1 : Nat) (i : Instr) : storeAddrs (s.fetch len m1) i = storeAddrs s i := by
  cases i <;> rfl

/-- Behind an ignored DD or FD the base instruction stores where it does by itself (48_cpu_control R379). -/
theorem storesAt_ignoredPrefix (pfx : Byte) (base : Instr) (s : State) :
    StoresAt s (storeAddrs s base) (ignoredPrefix pfx base s) := by
  have hrow : StoresAt s (storeAddrs s base) (runRow base (s.fetch 1 1)) :=
    storeAddrs_fetch s 1 1 base ▸ (storesAt_runRow base (s.fetch 1 1)).after_regs
  exact storesAt_ite (hrow.andThen fun _ => storesAt_done_of_store (by simp)) (storesAt_refused s _ _)

theorem storesAt_exec (i : Instr) (s : State) (h : i.wellFormed = true) : StoresAt s (storeAddrs s i.core) (exec i s) := by
  have hrow : StoresAt s (storeAddrs s i) (runRow i s) := storesAt_runRow i s
  cases i
  case prefixCb | prefixDd | prefixEd | prefixFd | prefixDdCb | prefixFdCb => cases h
  case ignoredDd | ignoredFd => exact storesAt_ignoredPrefix _ _ s
  all_goals exact hrow

end Sys2Proof.Machine
end

section
/-! PROOF. The family 20_memory: the frame of an instruction's stores. -/

namespace Sys2Proof.Machine

/-- Settles O20: the store comes by the writes of `storeAddrs`, whose laws are the three clauses. -/
theorem memoryFrame : Obligations.MemoryFrame := by
  intro i s t hwf h
  have hst : s.store.WrittenAt (storeAddrs s i.core) t.store := storesAt_exec i s hwf t h
  refine ⟨fun l hl => hst.readLoc_other hl, fun hp b hb => ?_, fun hnil => ?_⟩
  · rw [State.read8, State.read8, Store.read, Store.read, hst.locate_of_plain hp b, hst.readLoc_other hb]
  · rw [hnil] at hst
    exact Store.writtenAt_nil hst

end Sys2Proof.Machine
end

section
/-! PROOF. The family 20_memory: what `configure` refuses and what it builds. -/

namespace Sys2Proof.Machine

/-! The cases of 20_memory R74 -/

theorem mem_ramSizes_iff (n : Nat) : n ∈ ramSizes ↔ ∃ k, n = 2 ^ k ∧ 1024 ≤ n ∧ n ≤ 16384 := by
  constructor
  · intro h
    simp only [ramSizes, List.mem_cons, List.not_mem_nil, or_false] at h
    obtain rfl | rfl | rfl | rfl | rfl := h
    · exact ⟨10, by decide⟩
    · exact ⟨11, by decide⟩
    · exact ⟨12, by decide⟩
    · exact ⟨13, by decide⟩
    · exact ⟨14, by decide⟩
  · rintro ⟨k, rfl, hlo, hhi⟩
    have h10 : 10 ≤ k := (Nat.pow_le_pow_iff_right (a := 2) (by decide)).1 hlo
    have h14 : k ≤ 14 := (Nat.pow_le_pow_iff_right (a := 2) (by decide)).1 hhi
    have hk : k = 10 ∨ k = 11 ∨ k = 12 ∨ k = 13 ∨ k = 14 := by omega
    obtain rfl | rfl | rfl | rfl | rfl := hk <;> decide

theorem MapperKind.takesLength_iff (k : MapperKind) (n : Nat) :
    k.takesLength n = true ↔
      n ≠ 0 ∧ (k = .standard ∨ k = .codeMasters → n % 16384 = 0) ∧ (k = .sg1000 ∨ k = .noMapper → n ≤ 49152) := by
  have hpage : (n % Config.pageSize == 0) = true ↔ n % 16384 = 0 := beq_iff_eq
  have hmax : decide (n ≤ Config.linearMax) = true ↔ n ≤ 49152 := decide_eq_true_iff
  cases k <;>
    simp only [MapperKind.takesLength, Bool.and_eq_true, decide_eq_true_eq, Nat.pos_iff_ne_zero, hpage, hmax, reduceCtorEq,
      true_or, or_true, or_self, false_implies, true_implies, and_true, true_and]

theorem MapperKind.not_takesLength_iff (k : MapperKind) (n : Nat) :
    ¬ k.takesLength n = true ↔
      n = 0 ∨ ((k = .standard ∨ k = .codeMasters) ∧ n % 16384 ≠ 0) ∨ ((k = .sg1000 ∨ k = .noMapper) ∧ 49152 < n) := by
  rw [k.takesLength_iff]
  cases k <;>
    simp only [reduceCtorEq, or_true, or_self, false_and, true_and, and_true, or_false, false_or, false_implies,
      true_implies] <;>
    omega

/-- The state that `configure` answers for a kind, where it answers one. -/
def Configuration.built (c : Configuration) (k : MapperKind) : State :=
  State.cpuReset { State.reset with store := c.store k, plane := c.plane, params := c.params } c.fill

/-- The kind and sizes are those of R74. -/
def Configuration.Legal (c : Configuration) (k : MapperKind) : Prop :=
  c.kind = some k ∧ k.takesLength c.romImage.length = true ∧ c.ramSize ∈ ramSizes

theorem Configuration.Legal.image_ne_nil {c : Configuration} {k : MapperKind} (h : c.Legal k) : c.romImage ≠ [] := by
  obtain ⟨_, hlen, _⟩ := h
  obtain ⟨hpos, _⟩ := (k.takesLength_iff _).1 hlen
  exact fun hnil => hpos (List.length_eq_zero_iff.2 hnil)

theorem configure_eq_next {c : Configuration} {s : State} :
    configure c = .next s ↔ ∃ k, c.Legal k ∧ c.built k = s := by
  unfold configure Configuration.Legal
  cases c.kind with
  | none => exact ⟨nofun, fun ⟨_, ⟨hk, _⟩, _⟩ => nomatch hk⟩
  | some k =>
    simp only [Bool.and_eq_true, List.contains_iff_mem, ite_eq_next, Host.Outcome.next.injEq, reduceCtorEq, and_false, or_false]
    constructor
    · rintro ⟨h, hs⟩
      exact ⟨k, ⟨rfl, h⟩, hs⟩
    · rintro ⟨k', ⟨hk, h⟩, hs⟩
      cases hk
      exact ⟨h, hs⟩

theorem configure_eq_fault_of_kind {c : Configuration} {k : MapperKind} (hk : c.kind = some k) :
    configure c = .fault .fatalConfiguration ↔ ¬ k.takesLength c.romImage.length = true ∨ c.ramSize ∉ ramSizes := by
  have hcheck : (k.takesLength c.romImage.length && ramSizes.contains c.ramSize) = true ↔
      k.takesLength c.romImage.length = true ∧ c.ramSize ∈ ramSizes := by
    rw [Bool.and_eq_true, List.contains_iff_mem]
  rw [← Classical.not_and_iff_not_or_not, ← hcheck]
  simp only [configure, hk]
  split
  case isTrue h => exact ⟨nofun, fun hn => absurd h hn⟩
  case isFalse h => exact ⟨fun _ => h, fun _ => rfl⟩

theorem configure_fails_iff (c : Configuration) :
    configure c = .fault .fatalConfiguration ↔
      c.kind = none ∨ c.romImage = [] ∨
      ((c.kind = some .standard ∨ c.kind = some .codeMasters) ∧ c.romImage.length % 16384 ≠ 0) ∨
      ((c.kind = some .sg1000 ∨ c.kind = some .noMapper) ∧ 49152 < c.romImage.length) ∨
      ¬ (∃ k, c.ramSize = 2 ^ k ∧ 1024 ≤ c.ramSize ∧ c.ramSize ≤ 16384) := by
  rw [← mem_ramSizes_iff]
  cases hk : c.kind with
  | none =>
    have hfault : configure c = .fault .fatalConfiguration := by simp only [configure, hk]
    exact ⟨fun _ => .inl rfl, fun _ => hfault⟩
  | some k =>
    rw [configure_eq_fault_of_kind hk, k.not_takesLength_iff, List.length_eq_zero_iff]
    simp only [Option.some.injEq, reduceCtorEq, false_or, or_assoc]

/-! What is built -/

/-- The store that is built is in canonical form (20_memory R74, R99). -/
theorem Configuration.store_wf {c : Configuration} {k : MapperKind} (h : c.Legal k) : (c.store k).wf = true := by
  obtain ⟨_, hlen, hram⟩ := h
  have hkind : (c.store k).mapper.kind = k := by cases k <;> rfl
  have hlegal : (c.store k).mapper.legal = true := by cases k <;> rfl
  unfold Store.wf
  simp only [hkind, Bool.and_eq_true, and_assoc]
  refine ⟨?_, ?_, ?_, ?_, ?_, ?_, ?_, hlen, List.contains_iff_mem.2 hram, hlegal⟩
  · exact Memory.wfFrom_ofBytes _ 0
  · exact Memory.below_ofBytes _ 0 _ (Nat.le_of_eq (Nat.zero_add _))
  · exact Memory.wfFrom_ofBytes _ 0
  · exact Memory.below_ofBytes _ 0 _ (Nat.zero_add _ ▸ List.length_take_le _ _)
  · cases k
    case standard => exact Memory.wfFrom_ofBytes _ 0
    all_goals rfl
  · cases k
    case standard => exact Memory.below_ofBytes _ 0 _ (Nat.zero_add _ ▸ List.length_take_le _ _)
    all_goals rfl
  · cases k <;> rfl

theorem Configuration.inv_built {c : Configuration} {k : MapperKind} (h : c.Legal k) (hm : 1 ≤ c.params.msgCapacity)
    (hd : 1 ≤ c.params.disasmCount) : (c.built k).Inv :=
  ⟨c.store_wf h, hm, Nat.zero_le _, hd, List.nodup_nil, List.nodup_nil, rfl, nofun, nofun, nofun⟩

/-- Address 0 leads to byte 0 of the image, whatever the kind. -/
theorem Configuration.locate_zero {c : Configuration} {k : MapperKind} (h : c.romImage ≠ []) :
    (c.store k).locate 0 = .rom 0 := by
  cases k with
  | standard => rfl
  | codeMasters => simp [Configuration.store, Mapper.initial, Store.locate, Store.locateCodeMasters, Store.page]
  | sg1000 => exact if_pos (List.length_pos_iff.2 h)
  | noMapper => exact if_pos (List.length_pos_iff.2 h)

theorem Configuration.read8_zero_built {c : Configuration} {k : MapperKind} (h : c.romImage ≠ []) :
    some ((c.built k).read8 0) = c.romImage.head? := by
  have hread : (c.built k).read8 0 = c.romImage.getD 0 0 :=
    (Store.read_eq_of_locate (c.locate_zero h)).trans (Memory.read_ofBytes c.romImage 0 0)
  rw [hread]
  cases hc : c.romImage with
  | nil => exact absurd hc h
  | cons => rfl

/-- Settles O37: one lemma for the failures, one for each part of the state that is built. -/
theorem configureBuildsALegalState : Obligations.ConfigureBuildsALegalState := by
  intro c hmsg hdis
  refine ⟨configure_fails_iff c, fun s hs => ?_⟩
  obtain ⟨k, hlegal, rfl⟩ := configure_eq_next.1 hs
  have hkind : c.kind = some k := hlegal.1
  refine ⟨Configuration.inv_built hlegal hmsg hdis, rfl, rfl, rfl, rfl, rfl, rfl, rfl,
    Configuration.read8_zero_built hlegal.image_ne_nil, fun hk => ?_, fun hk => ?_⟩
  · obtain rfl : k = .standard := Option.some.inj (hkind.symm.trans hk)
    rfl
  · obtain rfl : k = .codeMasters := Option.some.inj (hkind.symm.trans hk)
    rfl

end Sys2Proof.Machine
end

section
/-! PROOF. The family 40_load8: loads into a register, stores, and the special registers I and R. -/

namespace Sys2Proof.Machine

/-! Fetching commutes with a change of a register that is neither PC nor R -/

theorem State.setXy_fetch (s : State) (x : Idx) (w : Word) (l m : Nat) :
    (s.fetch l m).setXy x w = (s.setXy x w).fetch l m := by
  cases x <;> rfl

theorem State.xy_fetch (s : State) (x : Idx) (l m : Nat) : (s.fetch l m).xy x = s.xy x := by
  cases x <;> rfl

theorem State.setHalf_fetch (s : State) (x : Idx) (h : Half) (v : Byte) (l m : Nat) :
    (s.fetch l m).setHalf x h v = (s.setHalf x h v).fetch l m := by
  cases h <;> simp only [State.setHalf, State.xy_fetch, State.setXy_fetch]

theorem State.setRegX_fetch (s : State) (x : Idx) (r : RegX) (v : Byte) (l m : Nat) :
    (s.fetch l m).setRegX x r v = (s.setRegX x r v).fetch l m := by
  cases r
  case xh => exact s.setHalf_fetch x .hi v l m
  case xl => exact s.setHalf_fetch x .lo v l m
  all_goals rfl

/-! The answers of the shapes that the loads share -/

/-- A fetch and a change of the main register set (40_load8 R150 to R152, R155, R158 to R162). -/
theorem done_fetch_setMain (s : State) (l m t : Nat) (k : Bank) :
    done t ((s.fetch l m).setMain k) = .next (s.after l m t { s with main := k }) := rfl

theorem ldRRXy_eq (x : Idx) (r r2 : RegX) (s : State) :
    ldRRXy x r r2 s = .next (s.after 2 2 8 (s.setRegX x r (s.regX x r2))) := by
  rw [ldRRXy, State.setRegX_fetch, done, State.spend_fetch_eq s _ 2 2 8 (by simp) (by simp) (by simp)]

theorem ldHalfN_eq (x : Idx) (h : Half) (n : Byte) (s : State) :
    ldHalfN x h n s = .next (s.after 3 2 11 (s.setHalf x h n)) := by
  rw [ldHalfN, State.setHalf_fetch, done, State.spend_fetch_eq s _ 3 2 11 (by simp) (by simp) (by simp)]

/-- A fetch and one byte write (40_load8 R153, R154, R156, R157, R165 to R167). -/
theorem writesOne_of_finish {i : Instr} {s : State} {a : Word} {v : Byte} {l m t : Nat}
    (he : exec i s = finish t ((s.fetch l m).write8 a v)) : WritesOne i s a v (s.after l m t (s.wrote a v)) :=
  writesOne_of he (s.store_fetch l m) (congrArg Host.Outcome.next (s.spend_fetch_wrote l m t a v))

/-- PV is IFF2 and C is kept (40_load8 R161, R162). -/
theorem flagsAre_ldAirFlags (f v : Byte) (iff2 : Bool) :
    FlagsAre (ldAirFlags f v iff2) (v.getLsbD 7) (v == 0) (v.getLsbD 5) false (v.getLsbD 3) iff2 false (f.getLsbD 0) :=
  flagsAre_packSzyx ..

theorem toNat_bumpR_mod (k : Nat) (r : Byte) : (bumpR k r).toNat % 128 = (r.toNat + k) % 128 := by
  rw [toNat_bumpR]
  omega

/-! The statements -/

/-- Settles O38: the forms of the main register set have one shape, those with a half of IX or IY another; the views of the halves are
their definitions. -/
theorem loadRegister8 : Obligations.LoadRegister8 := by
  intro s r r2 x x2 h n d nn
  have hmain (l m t : Nat) (k : Bank) := done_fetch_setMain s l m t k
  refine ⟨hmain .., hmain .., hmain .., hmain .., hmain .., hmain .., hmain .., hmain ..,
    ldRRXy_eq .ix x x2 s, ldRRXy_eq .iy x x2 s, ldHalfN_eq .ix h n s, ldHalfN_eq .iy h n s, ?views⟩
  case views => exact ⟨rfl, rfl, rfl, rfl, rfl, rfl, rfl, rfl, rfl, rfl, rfl, rfl⟩

/-- Settles O39: every form is a fetch and one byte write. -/
theorem store8 : Obligations.Store8 := by
  intro s r n d nn
  exact ⟨writesOne_of_finish rfl, writesOne_of_finish rfl, writesOne_of_finish rfl, writesOne_of_finish rfl,
    writesOne_of_finish rfl, writesOne_of_finish rfl, writesOne_of_finish rfl, writesOne_of_finish rfl,
    writesOne_of_finish rfl⟩

/-- Settles O40: the value LD A,R copies is R after its two increments. -/
theorem specialRegisterLoads : Obligations.SpecialRegisterLoads := by
  intro s
  refine ⟨⟨_, done_fetch_setMain .., flagsAre_ldAirFlags ..⟩,
    ⟨bumpR 2 s.r, _, done_fetch_setMain .., ?count, ?top, flagsAre_ldAirFlags ..⟩, ?ldIA, ?ldRA⟩
  case count => exact toNat_bumpR_mod 2 s.r
  case top => exact getLsbD_bumpR 2 s.r
  case ldIA | ldRA => rfl

end Sys2Proof.Machine
end

section
/-! PROOF. The family 41_load16_exchange: 16-bit loads and stores, PUSH and POP, the exchanges. -/

namespace Sys2Proof.Machine

/-! The answers of the shapes that write no memory -/

theorem done_fetch_setSp (s : State) (l m t : Nat) (w : Word) :
    done t ((s.fetch l m).setSp w) = .next (s.after l m t { s with sp := w }) := rfl

theorem done_fetch_setXy (s : State) (l m t : Nat) (x : Idx) (w : Word) :
    done t ((s.fetch l m).setXy x w) = .next (s.after l m t (s.setXy x w)) := by
  rw [State.setXy_fetch, done, State.spend_fetch_eq s _ l m t (by simp) (by simp) (by simp)]

/-- A pair is two registers of the main set, or SP (30_encoding R114). -/
theorem done_fetch_setPair (s : State) (l m t : Nat) (p : Pair) (w : Word) :
    done t ((s.fetch l m).setPair p w) = .next (s.after l m t (s.setPair p w)) := by
  cases p
  case sp => exact done_fetch_setSp s l m t w
  all_goals exact done_fetch_setMain s l m t _

/-- `POP qq` reads the word at the SP before it moves (41_load16_exchange R192). -/
theorem execPopQq_eq (q : PairQ) (s : State) :
    execPopQq q s = .next (s.after 1 1 10 { s.setPairQ q s.top16 with sp := s.sp + 2 }) := by
  cases q <;> exact done_fetch_setMain s.popped 1 1 10 _

theorem popXy_eq (x : Idx) (s : State) : popXy x s = .next (s.after 2 2 14 (s.popped.setXy x s.top16)) :=
  done_fetch_setXy s.popped 2 2 14 x s.top16

theorem Bank.setHl_join (k : Bank) (h l : Byte) : k.setHl (join h l) = { k with h := h, l := l } := by
  rw [Bank.setHl, hi_join, lo_join]

/-- The halves trade places: `join` and then `hi` or `lo` gives each back (41_load16_exchange R194). -/
theorem Bank.setHl_setDe_swap (k : Bank) :
    (k.setDe k.hl).setHl k.de = { k with d := k.h, e := k.l, h := k.d, l := k.e } := by
  simp only [Bank.setDe, Bank.setHl, Bank.de, Bank.hl, hi_join, lo_join]

/-! The answers of the shapes that write a word -/

/-- A fetch and one word write (41_load16_exchange R185 to R187). -/
theorem writesTwo_of_finish_write16 {i : Instr} {s : State} {a w : Word} {l m t : Nat}
    (he : exec i s = finish t ((s.fetch l m).write16 a w)) :
    WritesTwo i s a (lo w) (a + 1) (hi w) (s.after l m t (s.wroteWord a w)) :=
  writesTwo_of_write16 he (s.store_fetch l m) (congrArg Host.Outcome.next (s.spend_fetch_wroteWord l m t a w))

/-- A fetch and one push (41_load16_exchange R190, R191). -/
theorem writesTwo_of_finish_push16 {i : Instr} {s : State} {w : Word} {l m t : Nat}
    (he : exec i s = finish t ((s.fetch l m).push16 w)) :
    WritesTwo i s (s.sp - 1) (hi w) (s.sp - 2) (lo w) (s.after l m t (s.pushed w)) :=
  writesTwo_of_push16 he (s.store_fetch l m) (s.sp_fetch l m) (congrArg Host.Outcome.next (s.spend_fetch_pushed l m t w))

/-- HL's halves are H and L themselves, so a word write of HL writes L, then H. -/
theorem writesTwo_hl {i : Instr} {s t : State} {a : Word} (h : WritesTwo i s a (lo s.hl) (a + 1) (hi s.hl) t) :
    WritesTwo i s a s.main.l (a + 1) s.main.h t := by
  rwa [State.hl, Bank.hl, lo_join, hi_join] at h

/-- What an instruction adds to PC, R and CYCLES does not depend on the word it wrote. -/
theorem State.after_wroteWord (s u : State) (l m t : Nat) (a w : Word) :
    (s.wroteWord a w).after l m t u = s.after l m t u := by
  simp only [State.after, State.pc_wroteWord, State.r_wroteWord, State.cycles_wroteWord]

/-- HL gets the word that was read before the write (41_load16_exchange R197). -/
theorem exAtSpHl_writesTwo (s : State) :
    WritesTwo .exAtSpHl s s.sp (lo s.hl) (s.sp + 1) (hi s.hl)
      (s.after 1 1 19 ((s.wroteWord s.sp s.hl).setMain (s.main.setHl s.top16))) := by
  refine writesTwo_of_write16 rfl (s.store_fetch 1 1) ?_
  rw [State.setHl, State.main_wroteWord, State.main_fetch, State.wroteWord_fetch, done_fetch_setMain, State.after_wroteWord]
  rfl

/-- XY gets the word that was read before the write (41_load16_exchange R198). -/
theorem exAtSpXy_writesTwo {i : Instr} {s : State} {x : Idx} (he : exec i s = exAtSpXy x s) :
    WritesTwo i s s.sp (lo (s.xy x)) (s.sp + 1) (hi (s.xy x))
      (s.after 2 2 23 ((s.wroteWord s.sp (s.xy x)).setXy x s.top16)) := by
  refine writesTwo_of_write16 he (s.store_fetch 2 2) ?_
  rw [State.wroteWord_fetch, done_fetch_setXy, State.after_wroteWord]

/-! The statements -/

/-- Settles O41: the loads are a fetch and one write of a pair, an index register or SP; the stores a fetch and one word write; the views of
the pairs are their definitions. -/
theorem load16 : Obligations.Load16 := by
  intro s p nn
  refine ⟨done_fetch_setPair .., done_fetch_setXy s 4 2 14 .ix nn, done_fetch_setXy s 4 2 14 .iy nn, ?ldHlAtNn,
    done_fetch_setXy s 4 2 20 .ix _, done_fetch_setXy s 4 2 20 .iy _, done_fetch_setPair .., done_fetch_setSp ..,
    done_fetch_setSp .., done_fetch_setSp .., writesTwo_hl (writesTwo_of_finish_write16 rfl),
    writesTwo_of_finish_write16 rfl, writesTwo_of_finish_write16 rfl, writesTwo_of_finish_write16 rfl, ?views⟩
  case ldHlAtNn =>
    rw [← Bank.setHl_join]
    exact done_fetch_setMain ..
  case views => exact ⟨rfl, rfl, rfl, rfl, rfl, rfl, rfl, rfl⟩

/-- Settles O42: a push is a fetch and two byte writes below SP; a pop is a fetch and one write of a pair or an index register. -/
theorem pushPop : Obligations.PushPop := by
  intro s q top
  refine ⟨writesTwo_of_finish_push16 rfl, writesTwo_of_finish_push16 rfl, writesTwo_of_finish_push16 rfl,
    execPopQq_eq q s, popXy_eq .ix s, popXy_eq .iy s, ?views⟩
  case views => exact ⟨rfl, rfl, rfl, rfl, rfl, rfl, rfl, rfl⟩

/-- Settles O43: an exchange with the stack is a word write of the register, followed by the word that was read before it. -/
theorem exchanges : Obligations.Exchanges := by
  intro s m n top
  refine ⟨?exDeHl, rfl, rfl, writesTwo_hl (exAtSpHl_writesTwo s), exAtSpXy_writesTwo (x := .ix) rfl,
    exAtSpXy_writesTwo (x := .iy) rfl⟩
  case exDeHl =>
    rw [← Bank.setHl_setDe_swap]
    exact done_fetch_setMain ..

end Sys2Proof.Machine
end

section
/-! PROOF. The family 42_block: block transfer, search and I/O. Every one of the sixteen instructions is an iteration followed by
`endIteration`; those that do not repeat end it with `again` false. -/

namespace Sys2Proof.Machine

/-! How an iteration ends (42_block R214, R219) -/

/-- F after the end of an iteration that left u: the bits of the mask are free values when it repeats. -/
def State.endF (u : State) (again : Bool) (mask : Byte) : Byte :=
  if again then drawBits u.main.f mask u.freeByte else u.main.f

/-- The draw counter after the end of an iteration that left u. -/
def State.endDraws (u : State) (again : Bool) : Nat := if again then u.draws + 1 else u.draws

@[simp] theorem State.endF_false (u : State) (mask : Byte) : u.endF false mask = u.main.f := rfl

@[simp] theorem State.endDraws_false (u : State) : u.endDraws false = u.draws := rfl

/-- A bit outside the mask is the iteration's own, whether it repeats or not. -/
theorem State.getLsbD_endF (u : State) (again : Bool) {mask : Byte} {k : Nat} (hk : mask.getLsbD k = false) :
    (u.endF again mask).getLsbD k = u.main.f.getLsbD k := by
  cases again
  case false => rfl
  case true => rw [State.endF, if_pos rfl, getLsbD_drawBits, hk, if_neg Bool.false_ne_true]

/-- With Y and X as they come out, the flags of a search or transfer are those of the iteration. -/
theorem State.flagsAre_endF_maskYx {u : State} {s z y h x p n c : Bool} (again : Bool) (hf : FlagsAre u.main.f s z y h x p n c) :
    FlagsAre (u.endF again maskYx) s z ((u.endF again maskYx).getLsbD 5) h ((u.endF again maskYx).getLsbD 3) p n c := by
  obtain ⟨hs, hz, -, hh, -, hp, hn, hc⟩ := hf
  have hkeep {k : Nat} (hk : maskYx.getLsbD k = false) := u.getLsbD_endF again hk
  exact ⟨(hkeep rfl).trans hs, (hkeep rfl).trans hz, rfl, (hkeep rfl).trans hh, rfl, (hkeep rfl).trans hp,
    (hkeep rfl).trans hn, (hkeep rfl).trans hc⟩

/-- The state after a whole iteration of an instruction of two bytes that began in s and, but for PC, R and CYCLES, left u. -/
def State.iterated (s : State) (again : Bool) (mask : Byte) (u : State) : State :=
  { s.after 2 2 (if again then 21 else 16)
      { u with main := { u.main with f := u.endF again mask }, draws := u.endDraws again } with
    pc := if again then s.pc else s.pc + 2 }

/-- The whole answer of `endIteration`: a repeating one takes PC back to where it was before the fetch. -/
theorem endIteration_fetch (s u : State) (again : Bool) (mask : Byte) (hp : u.pc = s.pc) (hr : u.r = s.r)
    (hc : u.cycles = s.cycles) :
    endIteration again mask (u.fetch 2 2) = .next (s.iterated again mask u) := by
  cases again
  case false =>
    exact congrArg Host.Outcome.next (State.spend_fetch_eq s u 2 2 16 hp hr hc)
  case true =>
    have hback : u.pc + 2 - 2 = s.pc := by rw [BitVec.add_sub_cancel, hp]
    simp only [endIteration, if_pos, done, State.iterated, State.endF, State.endDraws, State.after, ← hback, ← hr, ← hc]
    rfl

/-- An iteration that stores one byte: u is s after what came before the write, k the main register set after it. -/
theorem writesOne_iterated {i : Instr} {s u : State} {a : Word} {v mask : Byte} {again : Bool} {k : Bank}
    (he : exec i s = andThen ((u.fetch 2 2).write8 a v) fun w => endIteration again mask (w.setMain k))
    (hs : u.store = s.store) (hp : u.pc = s.pc) (hr : u.r = s.r) (hc : u.cycles = s.cycles) :
    WritesOne i s a v (s.iterated again mask ((u.wrote a v).setMain k)) := by
  refine writesOne_of he hs ?_
  rw [State.wrote_fetch]
  exact endIteration_fetch s ((u.wrote a v).setMain k) again mask (by simpa using hp) (by simpa using hr) (by simpa using hc)

theorem andThen_assoc (x : Result) (f g : State → Result) :
    andThen (andThen x f) g = andThen x fun s => andThen (f s) g := by
  cases x <;> rfl

/-! Transfer -/

theorem flagsAre_ldBlockFlags (f a v : Byte) (bc : Word) :
    FlagsAre (ldBlockFlags f a v bc) (f.getLsbD 7) (f.getLsbD 6) ((a + v).getLsbD 1) false ((a + v).getLsbD 3) (bc != 0) false
      (f.getLsbD 0) :=
  flagsAre_packF ..

/-- The main register set after one transfer (42_block R210, R211). -/
def State.ldBank (s : State) (inc : Word) : Bank :=
  { (((s.main.setHl (s.hl + inc)).setDe (s.de + inc)).setBc (s.bc - 1)) with
    f := ldBlockFlags s.main.f s.main.a (s.read8 s.hl) (s.bc - 1) }

theorem State.bc_ldBank (s : State) (inc : Word) : (s.ldBank inc).bc = s.bc - 1 := join_hi_lo _

theorem andThen_ldBlock (inc : Word) (s : State) (g : State → Result) :
    andThen (ldBlock inc s) g =
      andThen ((s.fetch 2 2).write8 s.de (s.read8 s.hl)) fun w => g (w.setMain (s.ldBank inc)) :=
  andThen_assoc ..

theorem exec_transfer (s : State) (down rep : Bool) :
    exec (if rep then (if down then .lddr else .ldir) else (if down then .ldd else .ldi)) s =
      andThen (ldBlock (if down then 0xFFFF else 1) s) fun w => endIteration (rep && w.bc != 0) maskYx w := by
  cases rep <;> cases down <;> rfl

/-- Settles O44: an iteration stores one byte at DE; Y and X alone are drawn when it repeats, which it does only while BC is not 0. -/
theorem blockTransfer : Obligations.BlockTransfer := by
  intro s down rep i step v n bc again
  have hexec : exec i s = andThen ((s.fetch 2 2).write8 s.de v) fun w =>
      endIteration again maskYx (w.setMain (s.ldBank step)) := by
    rw [exec_transfer, andThen_ldBlock]
    simp only [State.bc, State.main_setMain, State.bc_ldBank]
    rfl
  have hstate := writesOne_iterated hexec rfl rfl rfl rfl
  let u := (s.wrote s.de v).setMain (s.ldBank step)
  have hflags : FlagsAre u.main.f (s.main.f.getLsbD 7) (s.main.f.getLsbD 6) (n.getLsbD 1) false (n.getLsbD 3) (bc != 0) false
      (s.main.f.getLsbD 0) := flagsAre_ldBlockFlags s.main.f s.main.a v bc
  refine ⟨u.endF again maskYx, u.endDraws again, hstate, fun hlast => ?last, fun hagain => ?repeats⟩
  case last =>
    rw [hlast]
    exact ⟨s.draws_wrote s.de v, hflags⟩
  case repeats =>
    obtain ⟨-, hbc⟩ := Bool.and_eq_true_iff.1 hagain
    rw [hbc] at hflags
    exact State.flagsAre_endF_maskYx again hflags

/-! Search -/

theorem flagsAre_cpBlockFlags (f a v : Byte) (bc : Word) :
    let r := a - v
    let borrow := decide (a.toNat % 16 < v.toNat % 16)
    let n := r - BitVec.ofNat 8 borrow.toNat
    FlagsAre (cpBlockFlags f a v bc) (r.getLsbD 7) (r == 0) (n.getLsbD 1) borrow (n.getLsbD 3) (bc != 0) true (f.getLsbD 0) := by
  intro r borrow n
  have hborrow : BitVec.ofNat 8 borrow.toNat = (BitVec.ofBool borrow).setWidth 8 := by cases borrow <;> rfl
  simp only [n, hborrow]
  exact flagsAre_packF ..

/-- The main register set after one search (42_block R215, R216). -/
def State.cpBank (s : State) (inc : Word) : Bank :=
  { ((s.main.setHl (s.hl + inc)).setBc (s.bc - 1)) with
    f := cpBlockFlags s.main.f s.main.a (s.read8 s.hl) (s.bc - 1) }

theorem cpBlock_eq (inc : Word) (s : State) : cpBlock inc s = (s.setMain (s.cpBank inc)).fetch 2 2 := rfl

theorem State.bc_cpBank (s : State) (inc : Word) : (s.cpBank inc).bc = s.bc - 1 := join_hi_lo _

/-- F.Z tells a match (42_block R215). -/
theorem State.flagZ_cpBank (s : State) (inc : Word) : flagZ (s.cpBank inc).f = (s.main.a - s.read8 s.hl == 0) := by
  obtain ⟨-, hz, -⟩ := flagsAre_cpBlockFlags s.main.f s.main.a (s.read8 s.hl) (s.bc - 1)
  exact hz

theorem exec_search (s : State) (down rep : Bool) :
    exec (if rep then (if down then .cpdr else .cpir) else (if down then .cpd else .cpi)) s =
      let w := cpBlock (if down then 0xFFFF else 1) s
      endIteration (rep && (w.bc != 0 && !flagZ w.main.f)) maskYx w := by
  cases rep <;> cases down <;> rfl

/-- Settles O45: Y and X alone are drawn when an iteration repeats, which it does only while BC is not 0 and the byte does not match. -/
theorem blockSearch : Obligations.BlockSearch := by
  intro s down rep i step a v r borrow n bc again
  let u := s.setMain (s.cpBank step)
  have hexec : exec i s = endIteration again maskYx (u.fetch 2 2) := by
    rw [exec_search, cpBlock_eq]
    simp only [State.bc, State.main_fetch, State.main_setMain, State.bc_cpBank, State.flagZ_cpBank, ← Bool.and_assoc]
    rfl
  have hstate := hexec.trans (endIteration_fetch s u again maskYx rfl rfl rfl)
  have hflags : FlagsAre u.main.f (r.getLsbD 7) (r == 0) (n.getLsbD 1) borrow (n.getLsbD 3) (bc != 0) true
      (s.main.f.getLsbD 0) := flagsAre_cpBlockFlags s.main.f a v bc
  refine ⟨u.endF again maskYx, u.endDraws again, hstate, fun hlast => ?last, fun hagain => ?repeats⟩
  case last =>
    rw [hlast]
    exact ⟨rfl, hflags⟩
  case repeats =>
    obtain ⟨hrep, hr⟩ := Bool.and_eq_true_iff.1 hagain
    obtain ⟨-, hbc⟩ := Bool.and_eq_true_iff.1 hrep
    rw [hbc, beq_eq_false_iff_ne.2 (bne_iff_ne.1 hr)] at hflags
    exact State.flagsAre_endF_maskYx again hflags

/-! Input and output -/

/-- The flags of a block input or output after the end of its iteration: Y, X, H and PV are the iteration's own only when it is the last
(42_block R219, R220, R224). -/
theorem State.flags_endF_maskYxhp {u : State} {again : Bool} {v b : Byte} {k : Nat} (hf : u.main.f = ioBlockFlags v k b) :
    let f := u.endF again maskYxhp
    f.getLsbD 7 = b.getLsbD 7 ∧ f.getLsbD 6 = (b == 0) ∧ f.getLsbD 1 = v.getLsbD 7 ∧ f.getLsbD 0 = decide (k > 255) ∧
      (again = false → f.getLsbD 5 = b.getLsbD 5 ∧ f.getLsbD 3 = b.getLsbD 3 ∧ f.getLsbD 4 = decide (k > 255) ∧
        f.getLsbD 2 = evenOnes (BitVec.ofNat 8 (k % 8) ^^^ b)) := by
  intro f
  have hflags : FlagsAre u.main.f (b.getLsbD 7) (b == 0) (b.getLsbD 5) (decide (k > 255)) (b.getLsbD 3)
      (evenOnes (BitVec.ofNat 8 (k % 8) ^^^ b)) (v.getLsbD 7) (decide (k > 255)) := by
    rw [hf, ← parity_eq]
    exact flagsAre_packF ..
  obtain ⟨hs, hz, hy, hh, hx, hp, hn, hc⟩ := hflags
  have hkeep {k : Nat} (hk : maskYxhp.getLsbD k = false) := u.getLsbD_endF again hk
  refine ⟨(hkeep rfl).trans hs, (hkeep rfl).trans hz, (hkeep rfl).trans hn, (hkeep rfl).trans hc, fun hlast => ?_⟩
  subst hlast
  exact ⟨hy, hx, hh, hp⟩

/-- The main register set after the input or output of the byte v, with k the integer its flags come from (42_block R220, R224). -/
def State.ioBank (s : State) (inc : Word) (v : Byte) (k : Nat) : Bank :=
  { s.main.setHl (s.hl + inc) with b := s.main.b - 1, f := ioBlockFlags v k (s.main.b - 1) }

theorem andThen_inBlock (inc : Word) (s : State) (g : State → Result) :
    andThen (inBlock inc s) g =
      let v := s.ioAnswer s.bc
      andThen (((s.ioReadDone s.bc).fetch 2 2).write8 s.hl v) fun w =>
        g (w.setMain (s.ioBank inc v (v.toNat + (s.main.c + lo inc).toNat))) :=
  andThen_assoc ..

theorem outBlock_eq (inc : Word) (s : State) :
    outBlock inc s =
      let v := s.read8 s.hl
      ((s.ioWrite (join (s.main.b - 1) s.main.c) v).setMain
        (s.ioBank inc v (v.toNat + (lo (s.hl + inc)).toNat))).fetch 2 2 := rfl

theorem exec_input (s : State) (down rep : Bool) :
    exec (if rep then (if down then .indr else .inir) else (if down then .ind else .ini)) s =
      andThen (inBlock (if down then 0xFFFF else 1) s) fun w => endIteration (rep && w.main.b != 0) maskYxhp w := by
  cases rep <;> cases down <;> rfl

theorem exec_output (s : State) (down rep : Bool) :
    exec (if rep then (if down then .otdr else .otir) else (if down then .outd else .outi)) s =
      let w := outBlock (if down then 0xFFFF else 1) s
      endIteration (rep && w.main.b != 0) maskYxhp w := by
  cases rep <;> cases down <;> rfl

/-- A write passes the record of a port read. -/
theorem State.wrote_ioReadDone (s : State) (port a : Word) (v : Byte) :
    (s.ioReadDone port).wrote a v =
      { s.wrote a v with
        io := { answers := s.io.answers.drop 1, trace := s.io.trace ++ [.read port (s.ioAnswer port)] }
        draws := s.draws + 1 } := by
  rw [State.ioReadDone, State.drawn, State.wrote_setDraws, State.wrote_setIo]
  rfl

/-- Settles O46: an input stores the byte read at HL, an output writes the byte at HL to the port with the new B; Y, X, H and PV are drawn
when the iteration repeats. -/
theorem blockIo : Obligations.BlockIo := by
  intro s down rep step hl b again main flags iIn iOut v w
  constructor
  case left =>
    let k := s.ioBank step v (v.toNat + (s.main.c + lo step).toNat)
    have hexec : exec iIn s = andThen (((s.ioReadDone s.bc).fetch 2 2).write8 s.hl v) fun w =>
        endIteration again maskYxhp (w.setMain k) :=
      (exec_input s down rep).trans (andThen_inBlock ..)
    have hstate := writesOne_iterated hexec rfl rfl rfl rfl
    rw [State.wrote_ioReadDone] at hstate
    exact ⟨_, _, hstate, State.flags_endF_maskYxhp rfl⟩
  case right =>
    let u := (s.ioWrite (join b s.main.c) w).setMain (s.ioBank step w (w.toNat + (lo hl).toNat))
    have hexec : exec iOut s = endIteration again maskYxhp (u.fetch 2 2) := exec_output s down rep
    exact ⟨u.endF again maskYxhp, u.endDraws again, hexec.trans (endIteration_fetch s u again maskYxhp rfl rfl rfl),
      State.flags_endF_maskYxhp rfl⟩

end Sys2Proof.Machine
end

section
/-! PROOF. The family 43_alu8: the accumulator operations, INC and DEC, DAA and the other adjustments of A and F. -/

namespace Sys2Proof.Machine

/-! Accumulator operations (43_alu8 R240 to R248) -/

/-- Every row of the table is a fetch and the row's operation on its operand (43_alu8 R240). -/
theorem exec_of_aluForm {i : Instr} {s : State} {x : AluForm} (h : aluForm s i = some x) :
    exec i s = done x.t ((s.fetch x.len x.m1).alu x.op x.operand) := by
  cases i <;> cases h -- an instruction outside the table has no form
  all_goals rfl

/-- The byte S and Z come from: what A becomes, but the difference for CP, which leaves A (43_alu8 R248). -/
def aluValue (op : AluOp) (a v : Byte) (c : Bool) : Byte :=
  if op = .cp then sub8 a v false else aluResult op a v c

theorem aluResult_eq (op : AluOp) (a v : Byte) (c : Bool) :
    aluResult op a v c = if op = .cp then a else aluValue op a v c := by
  cases op <;> rfl

theorem flagsAre_logicFlags (res : Byte) (h : Bool) :
    FlagsAre (logicFlags res h) (res.getLsbD 7) (res == 0) (res.getLsbD 5) h (res.getLsbD 3) (evenOnes res) false false := by
  rw [← parity_eq]
  exact flagsAre_packSzyx ..

/-- Settles O47: the operations are one addition, one subtraction or one bitwise operation each; the carry goes into ADC and SBC alone. -/
theorem accumulatorOperations : Obligations.AccumulatorOperations := by
  intro i s ⟨op, v, len, m1, t⟩ hx a _ c
  let carry := flagC s.main.f
  refine ⟨aluValue op a v carry, aluFlags op a v carry, ?state, ?sum, ?difference, ?and, ?xor, ?or, ?logic⟩
  case state =>
    rw [exec_of_aluForm hx, ← aluResult_eq]
    exact done_fetch_setMain ..
  case sum => rintro (rfl | rfl) <;> exact ⟨toNat_add8 .., flagsAre_addFlags ..⟩
  case difference => rintro (rfl | rfl | rfl) <;> exact ⟨toNat_sub8 .., flagsAre_subFlagsYx ..⟩
  case and | xor | or => rintro rfl; rfl
  case logic => rintro (rfl | rfl | rfl) <;> exact flagsAre_logicFlags ..

/-! INC and DEC (43_alu8 R249 to R256) -/

/-- PV of INC: only 0x7F goes over the signed limit (43_alu8 R249). -/
theorem flagsAre_incFlags (f v : Byte) :
    FlagsAre (incFlags f v) ((v + 1).getLsbD 7) (v + 1 == 0) ((v + 1).getLsbD 5) (v.toNat % 16 == 15) ((v + 1).getLsbD 3)
      (v == 0x7F) false (f.getLsbD 0) :=
  flagsAre_packSzyx ..

/-- PV of DEC: only 0x80 goes below the signed limit (43_alu8 R253). -/
theorem flagsAre_decFlags (f v : Byte) :
    FlagsAre (decFlags f v) ((v - 1).getLsbD 7) (v - 1 == 0) ((v - 1).getLsbD 5) (v.toNat % 16 == 0) ((v - 1).getLsbD 3)
      (v == 0x80) true (f.getLsbD 0) :=
  flagsAre_packSzyx ..

theorem State.setF_fetch (s : State) (f : Byte) (l m : Nat) : (s.fetch l m).setF f = (s.setF f).fetch l m := rfl

/-- A fetch, a change of half an index register, and F (43_alu8 R252, R256). -/
theorem done_fetch_setHalf_setF (s : State) (l m t : Nat) (x : Idx) (h : Half) (v f : Byte) :
    done t (((s.fetch l m).setHalf x h v).setF f) = .next (s.after l m t ((s.setHalf x h v).setF f)) := by
  rw [State.setHalf_fetch, State.setF_fetch]
  exact congrArg Host.Outcome.next
    (s.spend_fetch_eq _ l m t (s.pc_setHalf x h v) (s.r_setHalf x h v) (s.cycles_setHalf x h v))

/-- A fetch, one byte write, and F (43_alu8 R250, R251, R254, R255). -/
theorem writesOne_of_setF {i : Instr} {s : State} {a : Word} {v f : Byte} {l m t : Nat}
    (he : exec i s = andThen ((s.fetch l m).write8 a v) fun u => done t (u.setF f)) :
    WritesOne i s a v (s.after l m t ((s.wrote a v).setF f)) := by
  refine writesOne_of he (s.store_fetch l m) (congrArg Host.Outcome.next ?_)
  rw [State.wrote_fetch, State.setF_fetch]
  exact s.spend_fetch_eq _ l m t (s.pc_wrote a v) (s.r_wrote a v) (s.cycles_wrote a v)

/-- Settles O48: a form changes a register of the main set, half an index register or one byte of memory, and F. -/
theorem incDec8 : Obligations.IncDec8 := by
  intro s r h d c inc dec
  have hinc (v : Byte) : inc v (incFlags s.main.f v) := flagsAre_incFlags s.main.f v
  have hdec (v : Byte) : dec v (decFlags s.main.f v) := flagsAre_decFlags s.main.f v
  refine ⟨⟨_, hinc _, rfl⟩, ⟨_, hdec _, rfl⟩,
    ⟨_, hinc _, done_fetch_setHalf_setF ..⟩, ⟨_, hdec _, done_fetch_setHalf_setF ..⟩,
    ⟨_, hinc _, done_fetch_setHalf_setF ..⟩, ⟨_, hdec _, done_fetch_setHalf_setF ..⟩, ?incAt, ?decAt⟩
  case incAt =>
    rintro i a len m1 t (⟨rfl, rfl, rfl, rfl, rfl⟩ | ⟨rfl, rfl, rfl, rfl, rfl⟩ | ⟨rfl, rfl, rfl, rfl, rfl⟩) <;>
      exact ⟨_, hinc _, writesOne_of_setF rfl⟩
  case decAt =>
    rintro i a len m1 t (⟨rfl, rfl, rfl, rfl, rfl⟩ | ⟨rfl, rfl, rfl, rfl, rfl⟩ | ⟨rfl, rfl, rfl, rfl, rfl⟩) <;>
      exact ⟨_, hdec _, writesOne_of_setF rfl⟩

/-! DAA (43_alu8 R257) -/

theorem toNat_daaCorr (a f : Byte) :
    ((daaCorr a f).toNat : Int) = (if daaLow a f then 6 else 0) + (if daaHigh a f then 0x60 else 0) := by
  unfold daaCorr
  cases daaLow a f <;> cases daaHigh a f <;> rfl

theorem toNat_daaResult (a f : Byte) :
    ((daaResult a f).toNat : Int) =
      (if flagN f then (a.toNat : Int) - (daaCorr a f).toNat else (a.toNat : Int) + (daaCorr a f).toNat) % 256 := by
  unfold daaResult
  split
  case isTrue =>
    rw [BitVec.toNat_sub]
    omega
  case isFalse =>
    rw [BitVec.toNat_add]
    omega

theorem flagsAre_daaFlags (a f : Byte) :
    FlagsAre (daaFlags a f) ((daaResult a f).getLsbD 7) (daaResult a f == 0) ((daaResult a f).getLsbD 5) (daaHalf a f)
      ((daaResult a f).getLsbD 3) (evenOnes (daaResult a f)) (f.getLsbD 1) (daaHigh a f) := by
  rw [← parity_eq]
  exact flagsAre_packSzyx ..

/-! CPL and NEG (43_alu8 R258, R259) -/

theorem flagsAre_cplFlags (f a : Byte) :
    FlagsAre (cplFlags f (~~~a)) (f.getLsbD 7) (f.getLsbD 6) (!a.getLsbD 5) true (!a.getLsbD 3) (f.getLsbD 2) true
      (f.getLsbD 0) := by
  have hbit {k : Nat} (hk : k < 8) : (!a.getLsbD k) = (~~~a).getLsbD k := by simp [hk]
  rw [hbit (by decide), hbit (by decide)]
  exact flagsAre_keepSzp ..

theorem sub8_eq_sub (a s : Byte) : sub8 a s false = a - s := by
  apply BitVec.eq_of_toNat_eq
  have h := toNat_sub8 a s false
  rw [Bool.toNat_false] at h
  rw [BitVec.toNat_sub]
  omega

/-- Only 0x80 has no negative in a byte (43_alu8 R259). -/
theorem overflow8_neg (a : Byte) : overflow8 ((0 : Byte).toInt - a.toInt - Bool.toNat false) = (a == 0x80) := by
  have hzero : (0 : Byte).toInt = 0 := rfl
  have hmin : a = 0x80 ↔ a.toNat = 128 := BitVec.toNat_inj.symm
  rw [overflow8, hzero, toInt_byte, Bool.toNat_false, Bool.eq_iff_iff, decide_eq_true_iff, beq_iff_eq, hmin]
  split <;> omega

theorem flagsAre_negFlags (a : Byte) :
    FlagsAre (subFlags 0 a false) ((0 - a).getLsbD 7) (0 - a == 0) ((0 - a).getLsbD 5) (a.toNat % 16 != 0) ((0 - a).getLsbD 3)
      (a == 0x80) true (a != 0) := by
  have hhalf : (a.toNat % 16 != 0) = decide ((0 : Byte).toNat % 16 < a.toNat % 16 + Bool.toNat false) := by
    rw [Bool.eq_iff_iff]
    simp [Nat.pos_iff_ne_zero]
  have hcarry : (a != 0) = decide ((0 : Byte).toNat < a.toNat + Bool.toNat false) := by
    rw [Bool.eq_iff_iff]
    simp [Nat.pos_iff_ne_zero, BitVec.toNat_eq]
  rw [hhalf, hcarry, ← overflow8_neg, ← sub8_eq_sub]
  exact flagsAre_subFlagsYx ..

/-- Settles O49: DAA adds or subtracts its correction as a number, CPL complements, NEG subtracts A from 0, and SCF and CCF keep S, Z and PV
with Y and X from A. -/
theorem accumulatorAdjustments : Obligations.AccumulatorAdjustments := by
  intro s y a f0 sf zf hf pf nf cf
  refine ⟨⟨daaResult a f0, daaFlags a f0, done_fetch_setMain .., ?daa, flagsAre_daaFlags a f0⟩,
    ⟨cplFlags f0 (~~~a), ?cpl, flagsAre_cplFlags f0 a⟩, ⟨0 - a, subFlags 0 a false, ?neg, rfl, flagsAre_negFlags a⟩,
    ⟨_, done_fetch_setMain .., flagsAre_keepSzp ..⟩, ⟨_, done_fetch_setMain .., flagsAre_keepSzp ..⟩⟩
  case daa =>
    rw [toNat_daaResult, toNat_daaCorr]
    rfl
  case cpl =>
    rw [show a ^^^ 0xFF = ~~~a from BitVec.xor_allOnes]
    exact done_fetch_setMain ..
  case neg =>
    rw [← sub8_eq_sub]
    exact done_fetch_setMain ..

end Sys2Proof.Machine
end

section
/-! PROOF. The family 44_alu16: ADD, ADC and SBC of a pair, INC and DEC of a pair and of an index register. -/

namespace Sys2Proof.Machine

/-! ADD HL,ss and ADD XY,pp (44_alu16 R270, R271) -/

theorem getLsbD_hi (w : Word) {k : Nat} (hk : k < 8) : (hi w).getLsbD k = w.getLsbD (8 + k) := by
  simp [hi, hk]

/-- Y and X are bits 5 and 3 of the high byte, so bits 13 and 11 of the result. -/
theorem flagsAre_addPairFlags (f : Byte) (a s : Word) :
    FlagsAre (addPairFlags f a s) (f.getLsbD 7) (f.getLsbD 6) ((add16 a s false).getLsbD 13)
      (decide (a.toNat % 4096 + s.toNat % 4096 > 0xFFF)) ((add16 a s false).getLsbD 11) (f.getLsbD 2) false
      (decide (a.toNat + s.toNat > 0xFFFF)) := by
  rw [← getLsbD_hi _ (show 5 < 8 by decide), ← getLsbD_hi _ (show 3 < 8 by decide)]
  exact flagsAre_keepSzp ..

/-- A fetch, a change of an index register, and F (44_alu16 R271). -/
theorem done_fetch_setXy_setF (s : State) (l m t : Nat) (x : Idx) (w : Word) (f : Byte) :
    done t (((s.fetch l m).setXy x w).setF f) = .next (s.after l m t ((s.setXy x w).setF f)) := by
  cases x <;> rfl

/-- A fetch, a change of HL, and F (44_alu16 R270, R272, R273). -/
theorem done_fetch_setHl_setF (s : State) (l m t : Nat) (w : Word) (f : Byte) :
    done t (((s.fetch l m).setHl w).setF f) =
      .next (s.after l m t { s with main := { s.main with h := hi w, l := lo w, f := f } }) := rfl

/-! The statement -/

/-- Settles O50: ADD adds without a carry, ADC and SBC take F.C; INC and DEC are a fetch and one write of a pair or an index register. -/
theorem arithmetic16 : Obligations.Arithmetic16 := by
  intro s p q f0 c added
  let carry := flagC f0
  have hadded (a v : Word) : added a v (add16 a v false) (addPairFlags f0 a v) :=
    ⟨toNat_add16 a v false, flagsAre_addPairFlags f0 a v⟩
  refine ⟨⟨_, _, hadded _ _, done_fetch_setHl_setF ..⟩,
    ⟨_, _, hadded _ _, done_fetch_setXy_setF s 2 2 15 .ix ..⟩,
    ⟨_, _, hadded _ _, done_fetch_setXy_setF s 2 2 15 .iy ..⟩,
    ⟨add16 s.hl (s.pair p) carry, adcPairFlags s.hl (s.pair p) carry, done_fetch_setHl_setF .., toNat_add16 ..,
      flagsAre_adcPairFlags ..⟩,
    ⟨sub16 s.hl (s.pair p) carry, sbcPairFlags s.hl (s.pair p) carry, done_fetch_setHl_setF .., toNat_sub16 ..,
      flagsAre_sbcPairFlags ..⟩, ?incDec⟩
  case incDec =>
    exact ⟨done_fetch_setPair .., done_fetch_setPair .., done_fetch_setXy s 2 2 10 .ix _,
      done_fetch_setXy s 2 2 10 .iy _, done_fetch_setXy s 2 2 10 .ix _, done_fetch_setXy s 2 2 10 .iy _⟩

end Sys2Proof.Machine
end

section
/-! PROOF. The family 45_rotate_bit: rotates and shifts of a register and of memory, RLD and RRD, BIT, SET and RES. -/

namespace Sys2Proof.Machine

/-! Rotates and shifts of a register (45_rotate_bit R290 to R302) -/

/-- The four rotates of A are a fetch, the rotate, and F with S, Z and PV kept (45_rotate_bit R290 to R293). -/
theorem exec_rotA {i : Instr} {op : RotOp}
    (h : (i, op) ∈ [(Instr.rlca, RotOp.rlc), (.rrca, .rrc), (.rla, .rl), (.rra, .rr)]) (s : State) :
    let res := rotResult op s.main.a (flagC s.main.f)
    exec i s = done 4 ((s.fetch 1 1).setAF res (rotAFlags s.main.f res (rotCarry op s.main.a))) := by
  simp only [List.mem_cons, List.not_mem_nil, or_false, Prod.mk.injEq] at h
  obtain ⟨rfl, rfl⟩ | ⟨rfl, rfl⟩ | ⟨rfl, rfl⟩ | ⟨rfl, rfl⟩ := h <;> rfl

theorem exec_of_rotRForm {i : Instr} {op : RotOp} {r : Reg8} (h : rotRForm i = some (op, r)) (s : State) :
    exec i s = rotR op r s := by
  cases i <;> cases h -- an instruction outside the table has no form
  all_goals rfl

/-- A fetch, a change of a register, and F (45_rotate_bit R294). -/
theorem done_fetch_setReg_setF (s : State) (l m t : Nat) (r : Reg8) (v f : Byte) :
    done t (((s.fetch l m).setReg r v).setF f) =
      .next (s.after l m t { s with main := { s.main.set r v with f := f } }) := rfl

theorem flagsAre_rotFlags (op : RotOp) (v : Byte) (c : Bool) :
    let res := rotResult op v c
    FlagsAre (rotFlags op v c) (res.getLsbD 7) (res == 0) (res.getLsbD 5) false (res.getLsbD 3) (evenOnes res) false
      (rotCarry op v) := by
  intro res
  rw [← parity_eq]
  exact flagsAre_packSzyx ..

/-- Settles O51: a form is a fetch and one write of the main register set; the result and the bit shifted out are those of `rotated`. -/
theorem rotateRegisters : Obligations.RotateRegisters := by
  intro s
  constructor
  case left =>
    intro i op h
    exact ⟨_, _, _, rotated .., (exec_rotA h s).trans (done_fetch_setMain ..), flagsAre_keepSzp ..⟩
  case right =>
    intro i op r h
    exact ⟨_, _, _, rotated .., (exec_of_rotRForm h s).trans (done_fetch_setReg_setF ..), flagsAre_rotFlags ..⟩

/-! Read, modify and write back (45_rotate_bit R294) -/

theorem State.copied_fetch (s : State) (c : Option Reg8) (v : Byte) (l m : Nat) :
    (s.fetch l m).copied c v = (s.copied c v).fetch l m := by
  cases c <;> rfl

/-- The copy into a register comes after the write, and is made whenever the write is not refused (D49). -/
theorem State.writeBack_eq (s : State) (a : Word) (c : Option Reg8) (v : Byte) :
    s.writeBack a c v = andThen (s.write8 a v) fun u => .next (u.copied c v) := by
  cases c <;> rfl

/-- A fetch and one write back, after which the instruction goes on with f. -/
theorem writesOne_of_writeBack {i : Instr} {s t : State} {a : Word} {c : Option Reg8} {v : Byte} {l m : Nat} {f : State → Result}
    (he : exec i s = andThen ((s.fetch l m).writeBack a c v) f) (ht : f (((s.wrote a v).copied c v).fetch l m) = .next t) :
    WritesOne i s a v t := by
  rw [State.writeBack_eq, andThen_assoc] at he
  refine writesOne_of he (s.store_fetch l m) ?_
  rw [andThen_next, State.wrote_fetch, State.copied_fetch]
  exact ht

/-- A fetch and a rotate or shift of a byte of memory. -/
theorem writesOne_of_rotAt {i : Instr} {s : State} {op : RotOp} {a : Word} {c : Option Reg8} {l m t : Nat}
    (he : exec i s = (s.fetch l m).rotAt op a c t) :
    let v := s.read8 a
    let carry := flagC s.main.f
    let res := rotResult op v carry
    WritesOne i s a res (s.after l m t (((s.wrote a res).copied c res).setF (rotFlags op v carry))) := by
  intro v carry res
  refine writesOne_of_writeBack he (congrArg Host.Outcome.next ?_)
  rw [State.setF_fetch]
  exact s.spend_fetch_eq _ l m t (by simp [State.setF]) (by simp [State.setF]) (by simp [State.setF])

/-- A fetch and a change of a byte of memory by g, with no flag written. -/
theorem writesOne_of_modifyAt {i : Instr} {s : State} {g : Byte → Byte} {a : Word} {c : Option Reg8} {l m t : Nat}
    (he : exec i s = (s.fetch l m).modifyAt g a c t) :
    let res := g (s.read8 a)
    WritesOne i s a res (s.after l m t ((s.wrote a res).copied c res)) := by
  intro res
  refine writesOne_of_writeBack he (congrArg Host.Outcome.next ?_)
  exact s.spend_fetch_eq _ l m t (by simp) (by simp) (by simp)

/-! Rotates and shifts of memory; RLD and RRD (45_rotate_bit R294 to R302, R308, R309) -/

theorem exec_of_rotMemForm {i : Instr} {s : State} {x : RotForm} (h : rotMemForm s i = some x) :
    exec i s = (s.fetch x.len 2).rotAt x.op x.addr x.copy x.t := by
  cases i <;> cases h
  all_goals rfl

/-- A byte from its two hexadecimal digits. -/
theorem toNat_digits (x y : BitVec 4) : (x ++ y).toNat = x.toNat * 16 + y.toNat := by
  rw [BitVec.toNat_append, ← Nat.shiftLeft_add_eq_or_of_lt y.isLt, Nat.shiftLeft_eq]

theorem toNat_lowDigit (v : Byte) : (v.extractLsb' 0 4).toNat = v.toNat % 16 := by
  rw [BitVec.extractLsb'_toNat, Nat.shiftRight_zero]

theorem toNat_highDigit (v : Byte) : (v.extractLsb' 4 4).toNat = v.toNat / 16 := by
  have := v.isLt
  rw [BitVec.extractLsb'_toNat, Nat.shiftRight_eq_div_pow]
  omega

theorem toNat_digitA (a : Byte) (digit : BitVec 4) : (digitA a digit).toNat = a.toNat / 16 * 16 + digit.toNat := by
  rw [digitA, toNat_digits, toNat_highDigit]

theorem flagsAre_szypFlags (f v : Byte) :
    FlagsAre (szypFlags f v) (v.getLsbD 7) (v == 0) (v.getLsbD 5) false (v.getLsbD 3) (evenOnes v) false (f.getLsbD 0) := by
  rw [← parity_eq]
  exact flagsAre_packSzyx ..

/-- What an instruction adds to PC, R and CYCLES does not depend on the byte it wrote. -/
theorem State.after_wrote (s u : State) (l m t : Nat) (a : Word) (v : Byte) : (s.wrote a v).after l m t u = s.after l m t u := by
  simp only [State.after, State.pc_wrote, State.r_wrote, State.cycles_wrote]

/-- A fetch, one byte write at HL, and A and F from A's high digit and the digit moved in. -/
theorem writesOne_of_digitRotate {i : Instr} {s : State} {w : Byte} {digit : BitVec 4} (he : exec i s = digitRotate w digit s) :
    let a := digitA s.main.a digit
    WritesOne i s s.hl w
      (s.after 2 2 18 ((s.wrote s.hl w).setMain { s.main with a := a, f := szypFlags s.main.f a })) := by
  intro a
  refine writesOne_of he (s.store_fetch 2 2) ?_
  rw [State.wrote_fetch, State.setAF, State.main_fetch, State.main_wrote, done_fetch_setMain, State.after_wrote]
  rfl

/-- Settles O52: a rotate or shift is one write back; RLD and RRD write the digits of A and (HL) anew, each digit moved as a whole. -/
theorem rotateMemory : Obligations.RotateMemory := by
  intro s
  constructor
  case left =>
    intro i x h
    exact ⟨_, _, _, rotated .., writesOne_of_rotAt (exec_of_rotMemForm h), flagsAre_rotFlags ..⟩
  case right =>
    intro i left h a m
    simp only [List.mem_cons, List.not_mem_nil, or_false, Prod.mk.injEq] at h
    obtain ⟨rfl, rfl⟩ | ⟨rfl, rfl⟩ := h
    case inl =>
      refine ⟨_, _, _, ?byte, ?accumulator, writesOne_of_digitRotate rfl, flagsAre_szypFlags ..⟩
      case byte => rw [if_pos rfl, toNat_digits, toNat_lowDigit, toNat_lowDigit]
      case accumulator => rw [if_pos rfl, toNat_digitA, toNat_highDigit]
    case inr =>
      refine ⟨_, _, _, ?byte, ?accumulator, writesOne_of_digitRotate rfl, flagsAre_szypFlags ..⟩
      case byte => rw [if_neg Bool.false_ne_true, toNat_digits, toNat_lowDigit, toNat_highDigit]
      case accumulator => rw [if_neg Bool.false_ne_true, toNat_digitA, toNat_lowDigit]

/-! BIT, SET and RES (45_rotate_bit R303 to R307) -/

theorem flagsAre_bitFlags (f v : Byte) (b : BitVec 3) (y x : Bool) :
    FlagsAre (bitFlags f v b y x) (b == 7 && v.getLsbD b.toNat) (!v.getLsbD b.toNat) y true x (!v.getLsbD b.toNat) false
      (f.getLsbD 0) :=
  flagsAre_packF ..

/-- What SET (on) and RES (not on) of bit b make of a byte. -/
def putBit (on : Bool) (b : BitVec 3) (v : Byte) : Byte := if on then setBit v b else resBit v b

theorem getLsbD_putBit (on : Bool) (b : BitVec 3) (v : Byte) :
    ∀ k < 8, (putBit on b v).getLsbD k = if k = b.toNat then on else v.getLsbD k := by
  cases on
  case false => exact getLsbD_resBit v b
  case true => exact getLsbD_setBit v b

theorem exec_of_bitMemForm {i : Instr} {s : State} {x : BitForm} (h : bitMemForm s i = some x) :
    exec i s = (s.fetch x.len 2).modifyAt (putBit x.on x.bit) x.addr x.copy x.t := by
  cases i <;> cases h
  all_goals rfl

/-- Settles O53: BIT is a fetch and one write of F; SET and RES are a fetch and a register write or one write back. -/
theorem bitOperations : Obligations.BitOperations := by
  intro s b z r d flags put
  have hflags (v : Byte) (y x : Bool) : flags v (Machine.bitFlags s.main.f v b y x) y x := flagsAre_bitFlags s.main.f v b y x
  refine ⟨⟨_, hflags .., done_fetch_setMain ..⟩, ?bitAtHl, ⟨_, hflags .., done_fetch_setMain ..⟩,
    ⟨_, hflags .., done_fetch_setMain ..⟩, ⟨_, getLsbD_setBit _ b, done_fetch_setMain ..⟩,
    ⟨_, getLsbD_resBit _ b, done_fetch_setMain ..⟩, ?memory⟩
  case bitAtHl =>
    let u := s.setF (Machine.bitFlags s.main.f (s.read8 s.hl) b false false)
    exact ⟨u.endF true maskYx, State.flagsAre_endF_maskYx true (hflags ..), rfl⟩
  case memory =>
    intro i x h
    exact ⟨_, getLsbD_putBit x.on x.bit _, writesOne_of_modifyAt (exec_of_bitMemForm h)⟩

end Sys2Proof.Machine
end

section
/-! PROOF. The family 46_control_transfer: jumps and DJNZ, calls, restarts and returns. -/

namespace Sys2Proof.Machine

/-! The answers of a transfer and of the branch not taken -/

/-- A fetch alone: a condition that does not hold (46_control_transfer R321, R323, R328, R330). -/
theorem done_fetch (s : State) (l m t : Nat) : done t (s.fetch l m) = .next (s.after l m t s) := rfl

/-- A fetch and a jump (46_control_transfer R320, R321, R325, R326). -/
theorem done_fetch_setPc (s : State) (l m t : Nat) (w : Word) :
    done t ((s.fetch l m).setPc w) = .next ((s.after l m t s).goto w) := rfl

/-- The displacement counts from the next instruction (46_control_transfer R322). -/
theorem done_fetch_jumpRel (s : State) (l m t : Nat) (e : Byte) :
    done t ((s.fetch l m).jumpRel e) = .next ((s.after l m t s).goto (s.pc + BitVec.ofNat 16 l + sext e)) := rfl

/-- `DJNZ` changes B before it jumps (46_control_transfer R324). -/
theorem done_fetch_setMain_jumpRel (s : State) (l m t : Nat) (k : Bank) (e : Byte) :
    done t (((s.fetch l m).setMain k).jumpRel e) =
      .next ((s.after l m t { s with main := k }).goto (s.pc + BitVec.ofNat 16 l + sext e)) := rfl

/-- The word at SP is read before SP moves (46_control_transfer R329, R330). -/
theorem done_fetch_return (s : State) (l m t : Nat) :
    done t (s.fetch l m).return = .next ((s.after l m t { s with sp := s.sp + 2 }).goto s.top16) := rfl

/-- A return that also copies IFF2 into IFF1 (46_control_transfer R331, R332). -/
theorem done_fetch_returnFromHandler (s : State) (l m t : Nat) :
    done t (s.fetch l m).returnFromHandler =
      .next ((s.after l m t { s with sp := s.sp + 2, ctl := { s.ctl with iff1 := s.ctl.iff2 } }).goto s.top16) := rfl

/-- A fetch and a call: the address of the next instruction is pushed (46_control_transfer R327, R328, R333). -/
theorem writesTwo_of_call {i : Instr} {s : State} {w : Word} {l m t : Nat} (he : exec i s = (s.fetch l m).call w t) :
    let next := s.pc + BitVec.ofNat 16 l
    WritesTwo i s (s.sp - 1) (hi next) (s.sp - 2) (lo next) ((s.after l m t (s.pushed next)).goto w) := by
  intro next
  refine writesTwo_of_push16 he (s.store_fetch l m) (s.sp_fetch l m) (congrArg Host.Outcome.next ?_)
  calc (((s.fetch l m).pushed next).setPc w).spend t
    _ = (((s.fetch l m).pushed next).spend t).goto w := rfl
    _ = (s.after l m t (s.pushed next)).goto w := by rw [s.spend_fetch_pushed]

/-! The conditional forms and DJNZ -/

/-- Two answers chosen by a condition are one answer with the state chosen by it. -/
theorem ite_done_eq_next {c : Prop} [Decidable c] {m n : Nat} {u v a b : State} (ha : done m u = .next a)
    (hb : done n v = .next b) : (if c then done m u else done n v) = .next (if c then a else b) := by
  rw [ha, hb, ← apply_ite]

/-- `DJNZ` jumps unless B is then 0, so unless it was 1 (46_control_transfer R324). -/
theorem execDjnz_of_ne_one {s : State} (h : s.main.b ≠ 1) (e : Byte) :
    execDjnz e s = done 13 (((s.fetch 2 1).setReg .b (s.main.b - 1)).jumpRel e) :=
  if_pos (bne_iff_ne.2 (by bv_omega))

theorem execDjnz_of_eq_one {s : State} (h : s.main.b = 1) (e : Byte) :
    execDjnz e s = done 8 ((s.fetch 2 1).setReg .b 0) := by
  rw [execDjnz, h]
  rfl

/-! The statements -/

/-- Settles O54: a jump is a fetch and one write of PC, a jump not taken the fetch alone; DJNZ writes B between them; the conditions are
their definition. -/
theorem jumps : Obligations.Jumps := by
  intro s cc nn e
  refine ⟨done_fetch_setPc .., ite_done_eq_next (done_fetch_setPc ..) (done_fetch ..), done_fetch_jumpRel ..,
    ite_done_eq_next (done_fetch_jumpRel ..) (done_fetch ..),
    fun h => (execDjnz_of_ne_one h e).trans (done_fetch_setMain_jumpRel ..),
    fun h => (execDjnz_of_eq_one h e).trans (done_fetch_setMain ..),
    done_fetch_setPc .., done_fetch_setPc .., done_fetch_setPc .., ?conditions⟩
  case conditions => exact ⟨rfl, rfl, rfl, rfl, rfl, rfl, rfl, rfl⟩

/-- Settles O55: a call is a fetch and a push of the next address, a return a fetch and a pop; one not taken is the fetch alone. -/
theorem callsAndReturns : Obligations.CallsAndReturns := by
  intro s cc nn p y top
  exact ⟨writesTwo_of_call rfl,
    fun h => writesTwo_of_call (if_pos h),
    fun h => (if_neg (Bool.eq_false_iff.1 h)).trans (done_fetch ..),
    writesTwo_of_call rfl,
    done_fetch_return ..,
    fun h => (if_pos h).trans (done_fetch_return ..),
    fun h => (if_neg (Bool.eq_false_iff.1 h)).trans (done_fetch ..),
    done_fetch_returnFromHandler .., done_fetch_returnFromHandler ..⟩

end Sys2Proof.Machine
end

section
/-! SUPPORT. The decoder answers well-formed instructions only (30_encoding R118 to R127, R136). Which row a byte selects, and whether it is
well-formed, does not depend on the operand bytes behind it, so each table is settled opcode by opcode. -/

namespace Sys2Proof

/-- A byte that is none of CB, ED, DD and FD selects a row of the base table (30_encoding R118). -/
theorem wellFormed_decodeBase (op b1 b2 b3 : Byte) (h : op ≠ 0xCB ∧ op ≠ 0xED ∧ op ≠ 0xDD ∧ op ≠ 0xFD) :
    (decodeBase op b1 b2 b3).wellFormed = true := by
  revert op
  exact of_decide_eq_true rfl

theorem wellFormed_decodeCb (op : Byte) : (decodeCb op).wellFormed = true := by
  revert op
  exact of_decide_eq_true rfl

theorem wellFormed_decodeEd (op b2 b3 : Byte) : (decodeEd op b2 b3).wellFormed = true := by
  revert op
  exact of_decide_eq_true rfl

theorem wellFormed_decodeXyCb (x : Idx) (d op : Byte) : (decodeXyCb x d op).wellFormed = true := by
  revert op
  cases x <;> exact of_decide_eq_true rfl

theorem wellFormed_decodeXy (x : Idx) (op b2 b3 : Byte) : (decodeXy x op b2 b3).wellFormed = true := by
  by_cases hcb : op = 0xCB
  · exact hcb ▸ wellFormed_decodeXyCb x b2 b3
  · revert op
    cases x <;> exact of_decide_eq_true rfl

/-- The decoder answers instructions only (30_encoding R136). -/
theorem wellFormed_decode4 (b0 b1 b2 b3 : Byte) : (decode4 b0 b1 b2 b3).wellFormed = true := by
  unfold decode4
  by_cases hcb : b0 = 0xCB
  · rw [if_pos hcb]
    exact wellFormed_decodeCb b1
  by_cases hed : b0 = 0xED
  · rw [if_neg hcb, if_pos hed]
    exact wellFormed_decodeEd b1 b2 b3
  by_cases hdd : b0 = 0xDD
  · rw [if_neg hcb, if_neg hed, if_pos hdd]
    exact wellFormed_decodeXy .ix b1 b2 b3
  by_cases hfd : b0 = 0xFD
  · rw [if_neg hcb, if_neg hed, if_neg hdd, if_pos hfd]
    exact wellFormed_decodeXy .iy b1 b2 b3
  rw [if_neg hcb, if_neg hed, if_neg hdd, if_neg hfd]
  exact wellFormed_decodeBase b0 b1 b2 b3 ⟨hcb, hed, hdd, hfd⟩

end Sys2Proof
end

section
/-! SUPPORT. Whether an instruction answers a next state, said once as a relation: it does, with the interrupt bits its row gives, unless the
mapper refuses a write at one of its stored addresses (20_memory R83, R93; 60_exceptions R402). -/

namespace Sys2Proof

/-- What a row makes of the interrupt and halt bits (48_cpu_control R371 to R376, R378; 46_control_transfer R331, R332). -/
def Instr.ctlAfter (k : Machine.Ctl) : Instr → Machine.Ctl
  | .halt => { k with halted := true }
  | .di => { k with iff1 := false, iff2 := false }
  | .ei => { k with iff1 := true, iff2 := true, eiDefer := true }
  | .im0 _ => { k with im := .mode0 }
  | .im1 _ => { k with im := .mode1 }
  | .im2 _ => { k with im := .mode2 }
  | .retn _ => { k with iff1 := k.iff2 }
  | .reti => { k with iff1 := k.iff2 }
  | .loneDd => { k with prefixDefer := true }
  | .loneFd => { k with prefixDefer := true }
  | _ => k

end Sys2Proof

namespace Sys2Proof.Machine

/-! The interrupt and halt bits pass every writer of another part -/

section
variable (s : State)

@[simp] theorem State.ctl_setA (v : Byte) : (s.setA v).ctl = s.ctl := rfl

@[simp] theorem State.ctl_setF (v : Byte) : (s.setF v).ctl = s.ctl := rfl

@[simp] theorem State.ctl_setAF (a f : Byte) : (s.setAF a f).ctl = s.ctl := rfl

@[simp] theorem State.ctl_setHl (w : Word) : (s.setHl w).ctl = s.ctl := rfl

@[simp] theorem State.ctl_setReg (r : Reg8) (v : Byte) : (s.setReg r v).ctl = s.ctl := rfl

@[simp] theorem State.ctl_alu (op : AluOp) (v : Byte) : (s.alu op v).ctl = s.ctl := rfl

@[simp] theorem State.ctl_popped : s.popped.ctl = s.ctl := rfl

@[simp] theorem State.ctl_return : s.return.ctl = s.ctl := rfl

@[simp] theorem State.ctl_jumpRel (e : Byte) : (s.jumpRel e).ctl = s.ctl := rfl

@[simp] theorem State.ctl_ioReadDone (port : Word) : (s.ioReadDone port).ctl = s.ctl := rfl

@[simp] theorem State.ctl_ioWrite (port : Word) (v : Byte) : (s.ioWrite port v).ctl = s.ctl := rfl

@[simp] theorem ctl_cpBlock (inc : Word) : (cpBlock inc s).ctl = s.ctl := rfl

@[simp] theorem ctl_outBlock (inc : Word) : (outBlock inc s).ctl = s.ctl := rfl

end

/-! Answers -/

/-- x answers a next state with the interrupt bits k; or it is the refusal of a control write at one of the addresses, which the mapper
of s refuses (20_memory R83, R93). -/
def Answers (x : Result) (s : State) (as : List Word) (k : Ctl) : Prop :=
  (∃ t, x = .next t ∧ t.ctl = k) ∨
    (x = .refused .unmodelledMapperControl ∧ ∃ a ∈ as, ∃ v, s.store.mapper.refuses a v = true)

theorem answers_done {s u : State} {as : List Word} {k : Ctl} {n : Nat} (h : u.ctl = k := by simp) :
    Answers (done n u) s as k := .inl ⟨u.spend n, rfl, h⟩

/-- What follows the writes completes and leaves the interrupt bits. -/
theorem Answers.andThen {x : Result} {s : State} {as : List Word} {k : Ctl} {f : State → Result} (hx : Answers x s as k)
    (hf : ∀ u, Answers (f u) u [] u.ctl) : Answers (andThen x f) s as k := by
  obtain ⟨u, rfl, rfl⟩ | ⟨rfl, hw⟩ := hx
  · obtain hnext | ⟨-, a, ha, -⟩ := hf u
    · exact .inl hnext
    · cases ha
  · exact .inr ⟨rfl, hw⟩

theorem Answers.finish {x : Result} {s : State} {as : List Word} {k : Ctl} (h : Answers x s as k) (n : Nat) :
    Answers (finish n x) s as k :=
  h.andThen fun _ => answers_done

theorem answers_ite {c : Prop} [Decidable c] {x y : Result} {s : State} {as : List Word} {k : Ctl} (hx : Answers x s as k)
    (hy : Answers y s as k) : Answers (if c then x else y) s as k := by
  split
  · exact hx
  · exact hy

/-- What starts after a change of registers is refused where it would be before it: the mapper decides. -/
theorem Answers.after_regs {x : Result} {s u : State} {as : List Word} {k : Ctl} (h : Answers x u as k)
    (hu : s.RegsOnly u := by simp) : Answers x s as k := by
  obtain ⟨hstore, _⟩ := hu
  unfold Answers at h ⊢
  rwa [hstore] at h

/-! Operations -/

theorem State.answers_write8 (s : State) (a : Word) (v : Byte) : Answers (s.write8 a v) s [a] s.ctl := by
  cases hr : s.store.mapper.refuses a v with
  | false => exact .inl ⟨s.wrote a v, State.write8_ok hr, s.ctl_wrote a v⟩
  | true => exact .inr ⟨State.write8_refused hr, a, by simp, v, hr⟩

theorem State.answers_write16 (s : State) (a v : Word) : Answers (s.write16 a v) s [a, a + 1] s.ctl := by
  rw [State.write16_eq]
  split
  case isTrue h =>
    obtain h | h := Bool.or_eq_true_iff.1 h
    · exact .inr ⟨rfl, a, by simp, lo v, h⟩
    · exact .inr ⟨rfl, a + 1, by simp, hi v, h⟩
  case isFalse => exact .inl ⟨_, rfl, s.ctl_wroteWord a v⟩

theorem State.answers_push16 (s : State) (v : Word) : Answers (s.push16 v) s [s.sp - 1, s.sp - 2] s.ctl := by
  rw [State.push16_eq]
  split
  case isTrue h =>
    obtain h | h := Bool.or_eq_true_iff.1 h
    · exact .inr ⟨rfl, s.sp - 1, by simp, hi v, h⟩
    · exact .inr ⟨rfl, s.sp - 2, by simp, lo v, h⟩
  case isFalse => exact .inl ⟨_, rfl, s.ctl_pushed v⟩

theorem State.answers_incAt (s : State) (a : Word) (n : Nat) : Answers (s.incAt a n) s [a] s.ctl :=
  (s.answers_write8 a _).andThen fun _ => answers_done

theorem State.answers_decAt (s : State) (a : Word) (n : Nat) : Answers (s.decAt a n) s [a] s.ctl :=
  (s.answers_write8 a _).andThen fun _ => answers_done

theorem State.answers_writeBack (s : State) (a : Word) (c : Option Reg8) (v : Byte) :
    Answers (s.writeBack a c v) s [a] s.ctl := by
  refine (s.answers_write8 a v).andThen fun u => ?_
  cases c <;> exact .inl ⟨_, rfl, rfl⟩

theorem State.answers_rotAt (s : State) (op : RotOp) (a : Word) (c : Option Reg8) (n : Nat) :
    Answers (s.rotAt op a c n) s [a] s.ctl :=
  (s.answers_writeBack a c _).andThen fun _ => answers_done

theorem State.answers_modifyAt (s : State) (f : Byte → Byte) (a : Word) (c : Option Reg8) (n : Nat) :
    Answers (s.modifyAt f a c n) s [a] s.ctl :=
  (s.answers_writeBack a c _).finish n

theorem answers_digitRotate (m : Byte) (digit : BitVec 4) (s : State) : Answers (digitRotate m digit s) s [s.hl] s.ctl :=
  (State.answers_write8 _ _ _).after_regs.andThen fun _ => answers_done

theorem State.answers_call (s : State) (target : Word) (n : Nat) : Answers (s.call target n) s [s.sp - 1, s.sp - 2] s.ctl :=
  (s.answers_push16 s.pc).andThen fun _ => answers_done

theorem answers_execCallCcNn (cc : Cond) (nn : Word) (s : State) :
    Answers (execCallCcNn cc nn s) s (if s.cond cc then [s.sp - 1, s.sp - 2] else []) s.ctl := by
  unfold execCallCcNn
  cases s.cond cc with
  | true => exact (State.answers_call _ _ _).after_regs
  | false => exact answers_done

theorem answers_exAtSpXy (x : Idx) (s : State) : Answers (exAtSpXy x s) s [s.sp, s.sp + 1] s.ctl :=
  (State.answers_write16 _ _ _).after_regs.andThen fun _ => answers_done

theorem answers_endIteration (again : Bool) (mask : Byte) (s : State) : Answers (endIteration again mask s) s [] s.ctl :=
  answers_ite answers_done answers_done

theorem answers_ldBlock (inc : Word) (s : State) : Answers (ldBlock inc s) s [s.de] s.ctl :=
  (State.answers_write8 _ _ _).after_regs.andThen fun _ => .inl ⟨_, rfl, rfl⟩

theorem answers_inBlock (inc : Word) (s : State) : Answers (inBlock inc s) s [s.hl] s.ctl :=
  (State.answers_write8 _ _ _).after_regs.andThen fun _ => .inl ⟨_, rfl, rfl⟩

theorem answers_undefinedEd (op : Byte) (s : State) : Answers (undefinedEd op s) s [] s.ctl :=
  answers_done

theorem answers_lonePrefix (pfx : Byte) (s : State) :
    Answers (lonePrefix pfx s) s [] { s.ctl with prefixDefer := true } :=
  answers_done

/-! Instructions -/

/-- Every row but the prefixes: first the rows that store, then those that repeat or choose; the rest complete at once. -/
theorem answers_runRow (i : Instr) (s : State) (h : i.rowWellFormed = true) :
    Answers (runRow i s) s (storeAddrs s i) (i.ctlAfter s.ctl) := by
  cases i
  case ldAtBcA | ldAtDeA | ldAtNnA | ldAtHlR | ldAtHlN | ldAtIxR | ldAtIxN | ldAtIyR | ldAtIyN =>
    exact (State.answers_write8 _ _ _).after_regs.finish _
  case ldAtNnHl | ldAtNnDd | ldAtNnIx | ldAtNnIy =>
    exact (State.answers_write16 _ _ _).after_regs.finish _
  case pushQq | pushIx | pushIy =>
    exact (State.answers_push16 _ _).after_regs.finish _
  case exAtSpHl =>
    exact (State.answers_write16 _ _ _).after_regs.andThen fun _ => answers_done
  case exAtSpIx | exAtSpIy => exact answers_exAtSpXy _ s
  case incAtHl | incAtIx | incAtIy => exact (State.answers_incAt _ _ _).after_regs
  case decAtHl | decAtIx | decAtIy => exact (State.answers_decAt _ _ _).after_regs
  case rlcAtHl | rrcAtHl | rlAtHl | rrAtHl | slaAtHl | sraAtHl | sllAtHl | srlAtHl
      | rlcAtIx | rrcAtIx | rlAtIx | rrAtIx | slaAtIx | sraAtIx | sllAtIx | srlAtIx
      | rlcAtIxR | rrcAtIxR | rlAtIxR | rrAtIxR | slaAtIxR | sraAtIxR | sllAtIxR | srlAtIxR
      | rlcAtIy | rrcAtIy | rlAtIy | rrAtIy | slaAtIy | sraAtIy | sllAtIy | srlAtIy
      | rlcAtIyR | rrcAtIyR | rlAtIyR | rrAtIyR | slaAtIyR | sraAtIyR | sllAtIyR | srlAtIyR =>
    exact (State.answers_rotAt _ _ _ _ _).after_regs
  case resAtHl | setAtHl | resAtIx | setAtIx | resAtIxR | setAtIxR | resAtIy | setAtIy | resAtIyR | setAtIyR =>
    unfold runRow -- the byte function of `modifyAt` must stand syntactically in the goal to be unified
    exact (State.answers_modifyAt _ _ _ _ _).after_regs
  case rld | rrd => exact answers_digitRotate _ _ s
  case callNn | rst => exact (State.answers_call _ _ _).after_regs
  case callCcNn => exact answers_execCallCcNn _ _ s
  case ldi | ldd => exact (answers_ldBlock _ s).finish 16
  case ini | ind => exact (answers_inBlock _ s).finish 16
  case ldir | lddr => exact (answers_ldBlock _ s).andThen fun u => answers_endIteration _ _ u
  case inir | indr => exact (answers_inBlock _ s).andThen fun u => answers_endIteration _ _ u
  case cpir | cpdr | otir | otdr => exact (answers_endIteration _ _ _).after_regs
  case prefixCb | prefixDd | prefixEd | prefixFd | prefixDdCb | prefixFdCb | ignoredDd | ignoredFd => cases h
  case nopEd0 | nopEd2 | nopEd3 | nopEd7 => exact answers_undefinedEd _ s
  case loneDd | loneFd => exact answers_lonePrefix _ s
  case halt | di | ei | im0 | im1 | im2 | retn | reti => exact .inl ⟨_, rfl, rfl⟩
  case jrCc | jpCcNn | retCc | djnz => exact answers_ite (k := s.ctl) answers_done answers_done
  all_goals exact answers_done (k := s.ctl)

/-- Behind an ignored DD or FD the base instruction answers as it does by itself, one byte later (48_cpu_control R379). -/
theorem answers_ignoredPrefix (pfx : Byte) (base : Instr) (s : State) (hi : base.ignoresIndex = true)
    (hw : base.rowWellFormed = true) :
    Answers (ignoredPrefix pfx base s) s (storeAddrs s base) (base.ctlAfter s.ctl) := by
  have hrow : Answers (runRow base (s.fetch 1 1)) s (storeAddrs s base) (base.ctlAfter s.ctl) :=
    storeAddrs_fetch s 1 1 base ▸ (answers_runRow base (s.fetch 1 1) hw).after_regs
  rw [ignoredPrefix, if_pos hi]
  exact hrow.andThen fun _ => answers_done

theorem answers_exec (i : Instr) (s : State) (h : i.wellFormed = true) :
    Answers (exec i s) s (storeAddrs s i.core) (i.core.ctlAfter s.ctl) := by
  have hrow : i.rowWellFormed = true → Answers (runRow i s) s (storeAddrs s i) (i.ctlAfter s.ctl) := answers_runRow i s
  cases i
  case ignoredDd base | ignoredFd base =>
    obtain ⟨hi, hw⟩ := Bool.and_eq_true_iff.1 h
    exact answers_ignoredPrefix _ base s hi hw
  case prefixCb | prefixDd | prefixEd | prefixFd | prefixDdCb | prefixFdCb => cases h
  all_goals exact hrow h

theorem Answers.exists_next {x : Result} {s : State} {as : List Word} {k : Ctl} (h : Answers x s as k)
    (hn : s.linear = true ∨ as = []) : ∃ t, x = .next t := by
  obtain ⟨t, ht, -⟩ | ⟨-, a, ha, v, hv⟩ := h
  · exact ⟨t, ht⟩
  · obtain hl | rfl := hn
    · obtain hm | hm := s.linear_iff.1 hl <;> rw [hm] at hv <;> cases hv
    · cases ha

end Sys2Proof.Machine
end

section
/-! PROOF. The family 47_io: input and output. -/

namespace Sys2Proof.Machine

/-- A fetch and a port read that then changes the main register set (47_io R350, R352 to R354). -/
theorem done_fetch_ioReadDone_setMain (s : State) (l m t : Nat) (port : Word) (k : Bank) :
    done t (((s.fetch l m).ioReadDone port).setMain k) =
      .next (s.after l m t { s with
        main := k, draws := s.draws + 1
        io := { answers := s.io.answers.drop 1, trace := s.io.trace ++ [.read port (s.ioAnswer port)] } }) := rfl

/-- A fetch and a port write (47_io R351, R355 to R357). -/
theorem done_fetch_ioWrite (s : State) (l m t : Nat) (port : Word) (v : Byte) :
    done t ((s.fetch l m).ioWrite port v) =
      .next (s.after l m t { s with io := { s.io with trace := s.io.trace ++ [.write port v] } }) := rfl

theorem State.ioAnswer_of_cons {s : State} {v : Byte} {vs : List Byte} (h : s.io.answers = v :: vs) (port : Word) :
    s.ioAnswer port = v := by
  rw [State.ioAnswer, h]

/-- Settles O56: every form is a fetch and one access to the I/O space; a read then writes a register, F or both. -/
theorem inputOutput : Obligations.InputOutput := by
  intro s r n an afterRead afterWrite flags
  let v := s.ioAnswer s.bc
  let f := szypFlags s.main.f v
  have hflags : flags v f := flagsAre_szypFlags s.main.f v
  exact ⟨fun port _ _ h => State.ioAnswer_of_cons h port, done_fetch_ioReadDone_setMain ..,
    ⟨f, hflags, done_fetch_ioReadDone_setMain s 2 2 12 s.bc { s.main.set r v with f := f }⟩,
    ⟨f, hflags, done_fetch_ioReadDone_setMain ..⟩,
    done_fetch_ioWrite .., done_fetch_ioWrite .., done_fetch_ioWrite ..⟩

end Sys2Proof.Machine
end

section
/-! PROOF. The family 48_cpu_control: CPU control, the no-effect forms, an ignored DD or FD, and the table rows of CB, DD, ED and FD. -/

namespace Sys2Proof.Machine

/-! CPU control (48_cpu_control R370 to R376) -/

/-- A fetch and a change of the interrupt and halt bits (48_cpu_control R371 to R376). -/
theorem done_fetch_setCtl (s : State) (l m t : Nat) (k : Ctl) :
    done t ((s.fetch l m).setCtl k) = .next (s.after l m t { s with ctl := k }) := rfl

/-- Settles O57: NOP is the fetch alone, the others a fetch and one write of the interrupt and halt bits. -/
theorem cpuControl : Obligations.CpuControl := by
  intro s y
  exact ⟨done_fetch .., done_fetch_setCtl .., done_fetch_setCtl .., done_fetch_setCtl .., done_fetch_setCtl ..,
    done_fetch_setCtl .., done_fetch_setCtl ..⟩

/-! No-effect forms (48_cpu_control R377, R378) -/

/-- T-states pass an emission: it reaches the messages alone. -/
theorem done_emitIf (s : State) (on : Bool) (ev : MsgEvent) (t : Nat) :
    done t (s.emitIf on ev) = .next (if on then (s.spend t).emit ev else s.spend t) := by
  cases on <;> rfl

/-- Settles O58: a fetch, for a lone DD or FD also PREFIX_DEFER, and the message where it is asked for. -/
theorem noEffectForms : Obligations.NoEffectForms := by
  intro s op y0 logged
  have hed (byte : Byte) : undefinedEd byte s = .next (logged [0xED, byte] (s.after 2 2 8 s)) := done_emitIf ..
  have hlone (pfx : Byte) : lonePrefix pfx s =
      .next (logged [pfx] (s.after 1 1 4 { s with ctl := { s.ctl with prefixDefer := true } })) := done_emitIf ..
  have hzero : opLow6 0 op = BitVec.ofNat 8 op.toNat := congrArg (BitVec.ofNat 8) (Nat.zero_add op.toNat)
  exact ⟨hzero ▸ hed (opLow6 0 op), hed (opLow6 2 op), hed (opLow6 3 op), hed _, hlone 0xDD, hlone 0xFD⟩

/-! An ignored DD or FD (48_cpu_control R379) -/

theorem exec_of_ignoresIndex {base : Instr} (h : base.ignoresIndex = true) (s : State) : exec base s = runRow base s := by
  cases base
  case prefixCb | prefixDd | prefixEd | prefixFd | prefixDdCb | prefixFdCb | ignoredDd | ignoredFd => cases h
  all_goals rfl

/-- An ignored DD or FD fetches one byte more, runs the base instruction and emits its message. -/
theorem ignoredPrefix_eq {base : Instr} (h : base.ignoresIndex = true) (pfx : Byte) (s : State) :
    ignoredPrefix pfx base s = andThen (exec base { s with pc := s.pc + 1, r := bumpR 1 s.r }) fun v =>
      .next (if s.params.logUndefined then
        ({ v with cycles := v.cycles + 4 } : State).emit (.undefinedOpcode s.pc [pfx, base.opcode])
      else { v with cycles := v.cycles + 4 }) := by
  rw [ignoredPrefix, if_pos h, exec_of_ignoresIndex h]
  exact congrArg (andThen _) (funext fun v => done_emitIf v _ _ 4)


/-! The table rows of CB, DD, ED and FD (30_encoding R119 to R121, R127) -/

/-- An instruction runs the row it is. -/
theorem exec_eq_runSelected {i : Instr} (h : i.wellFormed = true) (s : State) : exec i s = runSelected i s := by
  cases i
  case prefixCb | prefixDd | prefixEd | prefixFd | prefixDdCb | prefixFdCb => cases h
  all_goals rfl

/-- Settles O59: an ignored DD or FD is the base instruction one byte later and a message; the table rows of CB, DD, ED and FD are the
row decoded behind them; both answer a next state unless a store is refused. -/
theorem prefixes : Obligations.Prefixes := by
  intro s base d op b1 b2 b3
  refine ⟨fun hi hw pfx i hpfx => ?ignored, fun i j hij => ?rows⟩
  case ignored =>
    have hexec : exec i s = ignoredPrefix pfx base s := by
      obtain ⟨rfl, rfl⟩ | ⟨rfl, rfl⟩ := hpfx <;> rfl
    rw [hexec, ignoredPrefix_eq hi]
    refine ⟨fun v hv => by rw [hv, andThen_next], fun e he => by rw [he, andThen_refused], fun hn => ?completes⟩
    case completes =>
      obtain ⟨t, ht⟩ := (answers_ignoredPrefix pfx base s hi hw).exists_next hn
      rw [ignoredPrefix_eq hi] at ht
      obtain ⟨v, hv, -⟩ := andThen_eq_next.1 ht
      exact ⟨v, t, hv, ht⟩
  case rows =>
    simp only [List.mem_cons, Prod.mk.injEq, List.not_mem_nil, or_false] at hij
    obtain ⟨hi, hj⟩ : exec i s = runSelected j s ∧ j.wellFormed = true := by
      obtain ⟨rfl, rfl⟩ | ⟨rfl, rfl⟩ | ⟨rfl, rfl⟩ | ⟨rfl, rfl⟩ | ⟨rfl, rfl⟩ | ⟨rfl, rfl⟩ := hij <;>
        exact ⟨rfl, wellFormed_decode4 _ _ _ _⟩
    rw [hi, ← exec_eq_runSelected hj]
    exact ⟨rfl, fun hn => (answers_exec j s hj).exists_next hn⟩

end Sys2Proof.Machine
end

section
/-! SUPPORT. What an engine step answers: it always answers, it keeps the debug control state, and a deferral bit it leaves is one it set
(60_exceptions R402, R420 to R424). -/

namespace Sys2Proof.Machine

/-! The start of a step -/

theorem State.unmarked_of_none {s : State} (h : s.plane.msgHit = none) : s.unmarked = s := by
  unfold State.unmarked State.setDebug
  rw [← h]

theorem State.wellFormed_nextInstr (s : State) : s.nextInstr.wellFormed = true := wellFormed_decode4 ..

/-! The kind of a step (60_exceptions R411, R413, R420, R422) -/

theorem Ctl.acceptsNmi_iff (k : Ctl) : k.acceptsNmi = true ↔ k.nmiPending = true ∧ k.prefixDefer = false := by
  simp [Ctl.acceptsNmi]

theorem Ctl.acceptsInt_iff (k : Ctl) :
    k.acceptsInt = true ↔ k.intPending = true ∧ k.iff1 = true ∧ k.eiDefer = false ∧ k.prefixDefer = false := by
  simp [Ctl.acceptsInt, and_assoc]

theorem State.kind_eq_nmiAccept (s : State) : s.kind = .nmiAccept ↔ s.ctl.acceptsNmi = true := by
  unfold State.kind
  cases s.ctl.acceptsNmi <;> cases s.ctl.acceptsInt <;> cases s.ctl.halted <;> decide

theorem State.kind_eq_intAccept (s : State) : s.kind = .intAccept ↔ s.kind ≠ .nmiAccept ∧ s.ctl.acceptsInt = true := by
  unfold State.kind
  cases s.ctl.acceptsNmi <;> cases s.ctl.acceptsInt <;> cases s.ctl.halted <;> decide

theorem State.kind_eq_idle (s : State) :
    s.kind = .idle ↔ s.kind ≠ .nmiAccept ∧ s.kind ≠ .intAccept ∧ s.ctl.halted = true := by
  unfold State.kind
  cases s.ctl.acceptsNmi <;> cases s.ctl.acceptsInt <;> cases s.ctl.halted <;> decide

/-! Entering a handler (60_exceptions R423, R424) -/

theorem State.pushed_setCtl (s : State) (k : Ctl) (v : Word) : (s.setCtl k).pushed v = (s.pushed v).setCtl k := by
  simp only [State.pushed_eq, State.sp_setCtl, State.wrote_setCtl]
  rfl

theorem State.pushed_setR (s : State) (b : Byte) (v : Word) : (s.setR b).pushed v = (s.pushed v).setR b := by
  simp only [State.pushed_eq, State.sp_setR, State.wrote_setR]
  rfl

/-- The state in which a handler is entered: PC pushed, R one M1 cycle on, the interrupt bits k, PC at the target, t T-states. -/
def State.entered (s : State) (k : Ctl) (target : Word) (t : Nat) : State :=
  { s.pushed s.pc with pc := target, r := bumpR 1 s.r, cycles := s.cycles + t, ctl := k }

/-- The push of an acceptance is refused (20_memory R83, R93). -/
def State.refusesEntry (s : State) : Bool :=
  s.store.mapper.refuses (s.sp - 1) (hi s.pc) || s.store.mapper.refuses (s.sp - 2) (lo s.pc)

/-- The vector is asked of the state after the push, with R and the interrupt bits as the handler finds them. -/
theorem State.enterHandler_begin (s : State) (k : Ctl) (vector : State → Word) (t : Nat) :
    s.begin.enterHandler k vector t =
      if s.refusesEntry then .refused .unmodelledMapperControl
      else .next (s.entered k (vector (((s.pushed s.pc).setCtl k).setR (bumpR 1 s.r))) t) := by
  rw [State.enterHandler_eq]
  simp only [State.begin, State.pc_setCtl, State.sp_setCtl, State.r_setCtl, State.store_setCtl, State.pushed_setR,
    State.pushed_setCtl, State.spend, State.cycles_setPc, State.cycles_setR, State.cycles_setCtl, State.cycles_pushed]
  rfl

/-- With no message marked, the step starts from s but for the deferral bits, and a refusal leaves s. -/
theorem State.engineStep_eq_settle {s : State} (hr : s.refused = false) (hm : s.plane.msgHit = none) :
    s.engineStep = settle s (s.begin.act s.kind) := by
  rw [State.engineStep, hr, State.unmarked_of_none hm]
  rfl

/-- A step that enters a handler does so, unless its push is refused; then it leaves REFUSED (60_exceptions R402). -/
theorem State.engineStep_of_enterHandler {s : State} {k : Ctl} {vector : State → Word} {t : Nat} (hr : s.refused = false)
    (hm : s.plane.msgHit = none) (hact : s.begin.act s.kind = s.begin.enterHandler k vector t) :
    (s.refusesEntry = false →
      s.engineStep = .next (s.entered k (vector (((s.pushed s.pc).setCtl k).setR (bumpR 1 s.r))) t)) ∧
    (s.refusesEntry = true → s.engineStep = .next { s with refused := true }) := by
  rw [State.engineStep_eq_settle hr hm, hact, State.enterHandler_begin]
  constructor <;> intro h <;> rw [h] <;> rfl

/-! The three ways to take an INT (60_exceptions R425 to R427) -/

theorem isRst_iff (v : Byte) : isRst v = true ↔ ∃ y : BitVec 3, v.toNat = 199 + 8 * y.toNat := by
  revert v
  decide

/-- The address of `RST p` stands in its opcode (60_exceptions R426). -/
theorem rstTarget_eq {v : Byte} {y : BitVec 3} (h : v.toNat = 199 + 8 * y.toNat) :
    (v &&& 0x38).setWidth 16 = BitVec.ofNat 16 (8 * y.toNat) := by
  have hv : v = BitVec.ofNat 8 (199 + 8 * y.toNat) := by rw [← h, BitVec.ofNat_toNat, BitVec.setWidth_eq]
  rw [hv]
  clear h hv
  revert y
  decide

theorem State.acceptInt_mode1 {s : State} (h : s.ctl.im = .mode1) :
    s.acceptInt = s.enterHandler s.ctl.intTaken (fun _ => 0x0038) 13 := by
  rw [State.acceptInt, h]

theorem State.acceptInt_mode2 {s : State} (h : s.ctl.im = .mode2) :
    s.acceptInt = s.enterHandler s.ctl.intTaken (fun u => u.read16 (join u.i u.params.busByte)) 19 := by
  rw [State.acceptInt, h]

theorem State.acceptInt_mode0_rst {s : State} (h : s.ctl.im = .mode0) (hb : isRst s.params.busByte = true) :
    s.acceptInt = s.enterHandler s.ctl.intTaken (fun _ => (s.params.busByte &&& 0x38).setWidth 16) 13 := by
  simp only [State.acceptInt, h, hb, if_true]

theorem State.acceptInt_mode0_other {s : State} (h : s.ctl.im = .mode0) (hb : isRst s.params.busByte = false) :
    s.acceptInt = .refused .unmodelledIm0Instruction := by
  simp only [State.acceptInt, h, hb, Bool.false_eq_true, if_false]

/-- An INT enters a handler, or its byte is no RST. -/
theorem State.acceptInt_cases (s : State) :
    (∃ vector t, s.acceptInt = s.enterHandler s.ctl.intTaken vector t) ∨
      (s.ctl.im = .mode0 ∧ isRst s.params.busByte = false ∧ s.acceptInt = .refused .unmodelledIm0Instruction) := by
  cases hm : s.ctl.im with
  | mode0 =>
    cases hb : isRst s.params.busByte with
    | true => exact .inl ⟨_, _, State.acceptInt_mode0_rst hm hb⟩
    | false => exact .inr ⟨rfl, rfl, State.acceptInt_mode0_other hm hb⟩
  | mode1 => exact .inl ⟨_, _, State.acceptInt_mode1 hm⟩
  | mode2 => exact .inl ⟨_, _, State.acceptInt_mode2 hm⟩

/-! Every step answers -/

theorem State.answers_enterHandler (s : State) (k : Ctl) (vector : State → Word) (t : Nat) :
    Answers (s.enterHandler k vector t) s [s.sp - 1, s.sp - 2] k :=
  (State.answers_push16 ((s.setCtl k).setR (bumpR 1 s.r)) s.pc).after_regs.andThen fun _ => answers_done

theorem State.answers_haltedIdle (s : State) : Answers s.haltedIdle s [] s.ctl :=
  answers_done

/-- The interrupt and halt bits after a step's own effect, by its kind (48_cpu_control R371 to R378; 60_exceptions R423, R424, R428). -/
def State.ctlAfter (s : State) : StepKind → Ctl
  | .nmiAccept => { s.ctl with nmiPending := false, halted := false, iff2 := s.ctl.iff1, iff1 := false }
  | .intAccept => s.ctl.intTaken
  | .idle => s.ctl
  | .instr => s.nextInstr.core.ctlAfter s.ctl

/-- A step's own effect answers, or is refused for one of the reasons of R402. -/
theorem State.act_answers (s : State) (k : StepKind) :
    (∃ as, Answers (s.act k) s as (s.ctlAfter k)) ∨ s.act k = .refused .unmodelledIm0Instruction := by
  cases k with
  | nmiAccept => exact .inl ⟨_, s.answers_enterHandler _ _ _⟩
  | intAccept =>
    obtain ⟨vector, t, h⟩ | ⟨-, -, h⟩ := s.acceptInt_cases
    · refine .inl ⟨[s.sp - 1, s.sp - 2], ?_⟩
      rw [State.act, h]
      exact s.answers_enterHandler _ _ _
    · exact .inr h
  | idle => exact .inl ⟨_, s.answers_haltedIdle⟩
  | instr => exact .inl ⟨_, answers_exec s.nextInstr s s.wellFormed_nextInstr⟩

theorem State.ctl_of_act {s t : State} {k : StepKind} (h : s.act k = .next t) : t.ctl = s.ctlAfter k := by
  obtain ⟨as, ⟨u, hu, hk⟩ | ⟨hr, -⟩⟩ | hr := s.act_answers k
  · cases hu.symm.trans h
    exact hk
  · cases hr.symm.trans h
  · cases hr.symm.trans h

theorem State.exists_engineStep (s : State) : ∃ t, s.engineStep = .next t := by
  cases hr : s.refused with
  | true => exact ⟨s, State.engineStep_of_refused hr⟩
  | false =>
    obtain ⟨as, ⟨t, ht, -⟩ | ⟨he, -⟩⟩ | he := s.unmarked.begin.act_answers s.kind
    · exact ⟨t, State.engineStep_of_next hr ht⟩
    · exact ⟨_, State.engineStep_of_refusal hr he rfl⟩
    · exact ⟨_, State.engineStep_of_refusal hr he rfl⟩

/-! The debug control state passes a step -/

/-- h is g but for the messages and their mark (60_exceptions R441). -/
def Debug.MessagesOnly (g h : Debug) : Prop := ∃ msgs hit, h = { g with msgs := msgs, msgHit := hit }

theorem Debug.messagesOnly_refl (g : Debug) : g.MessagesOnly g := ⟨g.msgs, g.msgHit, rfl⟩

theorem Debug.MessagesOnly.trans {g h k : Debug} (hgh : g.MessagesOnly h) (hhk : h.MessagesOnly k) : g.MessagesOnly k := by
  obtain ⟨_, _, rfl⟩ := hgh
  obtain ⟨msgs, hit, rfl⟩ := hhk
  exact ⟨msgs, hit, rfl⟩

theorem State.Effect.messagesOnly {s t : State} (h : s.Effect t) : s.plane.MessagesOnly t.plane := by
  induction h with
  | refl => exact s.plane.messagesOnly_refl
  | regs _ hr ih =>
    obtain ⟨_, hplane, _⟩ := hr
    exact hplane ▸ ih
  | write _ _ _ _ ih => exact ih
  | emit ev _ ih => exact ih.trans ⟨_, _, rfl⟩

theorem State.messagesOnly_engineStep {s t : State} (h : s.engineStep = .next t) : s.plane.MessagesOnly t.plane := by
  have hunmarked : s.plane.MessagesOnly s.unmarked.plane := ⟨s.plane.msgs, none, rfl⟩
  obtain ⟨-, rfl⟩ | ⟨-, hact⟩ | ⟨-, _, -, -, rfl⟩ := State.engineStep_eq_next.1 h
  · exact s.plane.messagesOnly_refl
  · exact hunmarked.trans (State.effects_act _ _ t hact).messagesOnly
  · exact hunmarked

end Sys2Proof.Machine
end

section
/-! PROOF. The family 60_exceptions: the engine step and the acceptance of interrupts. -/

namespace Sys2Proof.Machine

/-! The engine step (60_exceptions R420 to R428) -/

/-- Settles O27: the kind is chosen by its three tests in their order, and an idle period is one write of R. -/
theorem acceptanceRule : Obligations.AcceptanceRule := by
  intro s
  refine ⟨?nmi, ?int, s.kind_eq_idle, fun hr hm hk => ?idle⟩
  case nmi => rw [State.kind_eq_nmiAccept, Ctl.acceptsNmi_iff]
  case int => rw [State.kind_eq_intAccept, Ctl.acceptsInt_iff]
  case idle =>
    rw [State.engineStep_eq_settle hr hm, hk]
    rfl

/-- Settles O28: an NMI enters its handler from the state with the deferral bits cleared. -/
theorem nmiAcceptance : Obligations.NmiAcceptance := by
  intro s hr hm hk
  exact State.engineStep_of_enterHandler hr hm (by rw [hk]; rfl)

/-- Settles O29: an INT enters a handler with the vector of its mode; only mode 0 with a byte that is no RST is refused before the push. -/
theorem intAcceptance : Obligations.IntAcceptance := by
  intro s hr hm hk refusal taken
  have hact {x : Result} (hx : s.begin.acceptInt = x) : s.begin.act s.kind = x := by rw [hk]; exact hx
  have hother (hmode : s.ctl.im = .mode0) (hb : isRst s.params.busByte = false) :
      s.engineStep = .next { s with refused := true } := by
    rw [State.engineStep_eq_settle hr hm, hact (State.acceptInt_mode0_other hmode hb)]
    rfl
  refine ⟨fun h hmode => ?mode1, fun h hmode => ?mode2, fun h hmode y hy => ?rst, fun hmode hy => ?other, fun h => ?refused⟩
  case mode1 => exact (State.engineStep_of_enterHandler hr hm (hact (State.acceptInt_mode1 hmode))).1 h
  case mode2 =>
    have hentered := (State.engineStep_of_enterHandler hr hm (hact (State.acceptInt_mode2 hmode))).1 h
    simp only [State.i_setR, State.i_setCtl, State.i_pushed, State.params_setR, State.params_setCtl, State.params_pushed] at hentered
    exact hentered
  case rst =>
    rw [← rstTarget_eq hy]
    exact (State.engineStep_of_enterHandler hr hm (hact (State.acceptInt_mode0_rst hmode ((isRst_iff _).2 ⟨y, hy⟩)))).1 h
  case other => exact hother hmode (Bool.eq_false_iff.2 fun hb => (isRst_iff _).1 hb |>.elim hy)
  case refused =>
    obtain ⟨vector, t, hx⟩ | ⟨hmode, hb, -⟩ := s.begin.acceptInt_cases
    · exact (State.engineStep_of_enterHandler hr hm (hact hx)).2 h
    · exact hother hmode hb

/-! The deferral bits (60_exceptions R421) -/

theorem Instr.eiDefer_ctlAfter (i : Instr) (k : Ctl) : (i.ctlAfter k).eiDefer = true ↔ i = .ei ∨ k.eiDefer = true := by
  cases i <;> simp [Instr.ctlAfter]

theorem Instr.prefixDefer_ctlAfter (i : Instr) (k : Ctl) :
    (i.ctlAfter k).prefixDefer = true ↔ i.isLonePrefix = true ∨ k.prefixDefer = true := by
  cases i <;> simp [Instr.ctlAfter, Instr.isLonePrefix]

/-- No lone DD or FD stands behind an ignored one (30_encoding R125, R126). -/
theorem Instr.isLonePrefix_core {i : Instr} (h : i.wellFormed = true) : i.core.isLonePrefix = i.isLonePrefix := by
  cases i
  case ignoredDd base | ignoredFd base =>
    obtain ⟨hi, -⟩ := Bool.and_eq_true_iff.1 h
    cases base
    case loneDd | loneFd => cases hi
    all_goals rfl
  all_goals rfl

theorem State.eiDefer_ctlAfter {s : State} (h : s.ctl.eiDefer = false) (k : StepKind) :
    (s.ctlAfter k).eiDefer = true ↔ k = .instr ∧ s.nextInstr.core = .ei := by
  cases k with
  | instr => simp [State.ctlAfter, Instr.eiDefer_ctlAfter, h]
  | nmiAccept | intAccept | idle => simp [State.ctlAfter, Ctl.intTaken, h]

theorem State.prefixDefer_ctlAfter {s : State} (h : s.ctl.prefixDefer = false) (k : StepKind) :
    (s.ctlAfter k).prefixDefer = true ↔ k = .instr ∧ s.nextInstr.isLonePrefix = true := by
  cases k with
  | instr => simp [State.ctlAfter, Instr.prefixDefer_ctlAfter, Instr.isLonePrefix_core s.wellFormed_nextInstr, h]
  | nmiAccept | intAccept | idle => simp [State.ctlAfter, Ctl.intTaken, h]

/-- Settles O21: the step starts with both bits cleared, and its own effect then gives them. -/
theorem deferralLastsOneBoundary : Obligations.DeferralLastsOneBoundary := by
  intro s t hr hstep ht
  obtain ⟨hr', -⟩ | ⟨-, hact⟩ | ⟨-, _, -, -, rfl⟩ := State.engineStep_eq_next.1 hstep
  · cases hr.symm.trans hr'
  · rw [State.ctl_of_act hact]
    exact ⟨State.eiDefer_ctlAfter rfl s.kind, State.prefixDefer_ctlAfter rfl s.kind⟩
  · cases ht

end Sys2Proof.Machine
end

section
/-! PROOF. The family 60_exceptions: the tick, its breakpoints and the step command. -/

namespace Sys2Proof.Machine

/-! The part of a tick behind its commands, by what it does (60_exceptions R440, R443, R460) -/

theorem State.runTick_of_refused {s : State} (h : s.refused = true) : s.runTick = .next s := by
  rw [State.runTick, h]
  rfl

theorem State.runTick_of_held {s : State} (h : s.plane.execState = .held) : s.runTick = .next s := by
  rw [State.runTick, h, beq_self_eq_true, Bool.or_true, if_pos rfl]

theorem State.runTick_of_breakpoint {s : State} (hr : s.refused = false) (he : s.plane.execState ≠ .held)
    (hs : s.plane.skipBp = false) (hk : s.kind ≠ .idle) (hc : s.plane.checkPc s.pc = true) :
    s.runTick = .next (s.holdWith (.breakpointHit s.pc)) := by
  simp [State.runTick, hr, he, hs, hk, hc]

/-- SKIP_BP after a tick that runs its step: an idle period leaves it, else it is used up (60_exceptions R443; 90_conflicts C4). -/
def State.skipAfter (s : State) : Bool := decide (s.kind = .idle) && s.plane.skipBp

theorem State.setDebug_skipAfter_of_eq {s : State} (h : s.skipAfter = s.plane.skipBp) :
    s.setDebug { s.plane with skipBp := s.skipAfter } = s := by
  rw [h]
  rfl

theorem State.runTick_of_pass {s : State} (hr : s.refused = false) (he : s.plane.execState ≠ .held)
    (hp : s.plane.skipBp = true ∨ s.kind = .idle ∨ s.plane.checkPc s.pc = false) :
    s.runTick = (s.setDebug { s.plane with skipBp := s.skipAfter }).stepInTick := by
  by_cases hk : s.kind = .idle
  case pos =>
    rw [State.setDebug_skipAfter_of_eq (by simp [State.skipAfter, hk])]
    simp [State.runTick, hr, he, hk]
  case neg =>
    cases hs : s.plane.skipBp with
    | true => simp [State.runTick, hr, he, hk, hs, State.skipAfter]
    | false =>
      have hc : s.plane.checkPc s.pc = false := by simpa [hs, hk] using hp
      have hsame : s.skipAfter = s.plane.skipBp := by simp [State.skipAfter, hk, hs]
      rw [State.setDebug_skipAfter_of_eq hsame]
      simp [State.runTick, hr, he, hk, hs, hc]

/-! What follows the step (60_exceptions R441, R460) -/

theorem State.skipBp_afterStep (b : Bool) (s : State) : (s.afterStep b).plane.skipBp = s.plane.skipBp := by
  unfold State.afterStep
  cases s.plane.msgHit <;> cases b <;> rfl

/-- A single step ends Held. -/
theorem State.execState_afterStep_true (s : State) : (s.afterStep true).plane.execState = .held := by
  unfold State.afterStep
  cases s.plane.msgHit <;> rfl

/-- Only a matched message is reported behind a step. -/
theorem State.reports_afterStep (b : Bool) (s : State) :
    (s.afterStep b).plane.reports = s.plane.reports ∨
      ∃ x, (s.afterStep b).plane.reports = s.plane.reports ++ [.messageBreak x] := by
  unfold State.afterStep
  cases s.plane.msgHit with
  | some x => exact .inr ⟨x, rfl⟩
  | none => cases b <;> exact .inl rfl

theorem State.afterStep_of_none {s : State} (h : s.plane.msgHit = none) : s.afterStep false = s := by
  unfold State.afterStep
  rw [h]
  rfl

theorem State.afterStep_of_some {s : State} {x : Text} (h : s.plane.msgHit = some x) (b : Bool) :
    s.afterStep b = { s with plane := { s.plane with
      execState := .held, msgHit := none, reports := s.plane.reports ++ [.messageBreak x] } } := by
  unfold State.afterStep
  rw [h]
  rfl

/-- The step of a tick reports nothing, or a matched message. -/
theorem State.reports_stepInTick {s t : State} (h : s.stepInTick = .next t) :
    t.plane.reports = s.plane.reports ∨ ∃ x, t.plane.reports = s.plane.reports ++ [.messageBreak x] := by
  obtain ⟨u, hu, rfl⟩ := State.stepInTick_eq_next.1 h
  obtain ⟨msgs, hit, hplane⟩ := State.messagesOnly_engineStep hu
  have hreports : u.plane.reports = s.plane.reports := by rw [hplane]
  exact hreports ▸ u.reports_afterStep _

theorem State.exists_stepInTick (s : State) : ∃ t, s.stepInTick = .next t := by
  obtain ⟨u, hu⟩ := s.exists_engineStep
  exact ⟨_, State.stepInTick_eq_next.2 ⟨u, hu, rfl⟩⟩

theorem Debug.checkPc_iff (g : Debug) (a : Word) : g.checkPc a = true ↔ a ∈ g.pcBps := by
  simp [Debug.checkPc]

/-- The part of a tick behind its commands does one of three things: nothing, a breakpoint, or a step. -/
theorem State.runTick_cases (s : State) :
    s.runTick = .next s ∨
      (s.plane.checkPc s.pc = true ∧ s.runTick = .next (s.holdWith (.breakpointHit s.pc))) ∨
      s.runTick = (s.setDebug { s.plane with skipBp := s.skipAfter }).stepInTick := by
  cases hr : s.refused with
  | true => exact .inl (State.runTick_of_refused hr)
  | false =>
    by_cases he : s.plane.execState = .held
    case pos => exact .inl (State.runTick_of_held he)
    case neg =>
      by_cases hp : s.plane.skipBp = true ∨ s.kind = .idle ∨ s.plane.checkPc s.pc = false
      case pos => exact .inr (.inr (State.runTick_of_pass hr he hp))
      case neg =>
        obtain ⟨hs, hrest⟩ := not_or.1 hp
        obtain ⟨hk, hc⟩ := not_or.1 hrest
        have hcheck : s.plane.checkPc s.pc = true := Bool.ne_false_iff.1 hc
        exact .inr (.inl ⟨hcheck, State.runTick_of_breakpoint hr he (Bool.eq_false_iff.2 hs) hk hcheck⟩)

/-! The tick -/

theorem step_of_empty {s : State} (h : s.plane.cmdQ = []) : step s = s.runTick := by
  rw [step, State.tick, State.dispatch_of_empty h]

/-- Settles O7: a step's own effect answers or is refused for a reason of R402, which its engine step turns into REFUSED. -/
theorem everyStepAnswersNext : Obligations.EveryStepAnswersNext := by
  intro s
  obtain h | ⟨-, h⟩ | h := s.dispatch.runTick_cases
  · exact ⟨_, h⟩
  · exact ⟨_, h⟩
  · obtain ⟨t, ht⟩ := State.exists_stepInTick (s.dispatch.setDebug { s.dispatch.plane with skipBp := s.dispatch.skipAfter })
    exact ⟨t, h.trans ht⟩

/-- Settles O12: the dispatch leaves REFUSED, and behind it nothing runs. -/
theorem refusedStays : Obligations.RefusedStays := by
  intro s t hr hstep
  have hdispatch : s.dispatch.refused = true := by rw [State.dispatch_eq]; exact hr
  cases (State.runTick_of_refused hdispatch).symm.trans hstep
  exact s.dispatch_eq

/-- Settles O32: the three cases of the PC check; a step keeps SKIP_BP and the reports, but for a matched message. -/
theorem breakpointsHold : Obligations.BreakpointsHold := by
  intro s t hq hr hstep
  rw [step_of_empty hq] at hstep
  refine ⟨fun he => ?held, fun he hs hk hc => ?breakpoint, fun he hp => ?runs, fun x hx => ?report⟩
  case held =>
    cases (State.runTick_of_held he).symm.trans hstep
    rfl
  case breakpoint =>
    cases (State.runTick_of_breakpoint hr he hs hk ((Debug.checkPc_iff ..).2 hc)).symm.trans hstep
    rfl
  case runs =>
    rw [← Debug.checkPc_iff, Bool.not_eq_true] at hp
    rw [State.runTick_of_pass hr he hp] at hstep
    obtain ⟨u, hu, rfl⟩ := State.stepInTick_eq_next.1 hstep
    obtain ⟨msgs, hit, hplane⟩ := State.messagesOnly_engineStep hu
    refine ⟨u, hu, ?_, ?_⟩
    · rw [State.skipBp_afterStep, hplane]
      rfl
    · rw [State.afterStep_eq]
      exact ⟨rfl, rfl, rfl, rfl⟩
  case report =>
    obtain h | ⟨hc, h⟩ | h := s.runTick_cases
    · cases h.symm.trans hstep
      simp at hx
    · cases h.symm.trans hstep
      obtain rfl : s.pc = x := by simpa [State.holdWith, Debug.report] using hx
      exact ⟨rfl, rfl, (Debug.checkPc_iff ..).1 hc⟩
    · obtain hsame | ⟨y, hy⟩ := State.reports_stepInTick (h.symm.trans hstep)
      · simp [hx] at hsame
      · simp [hx] at hy

/-! A single step (60_exceptions R443, R458) -/

/-- What a queued Step makes of a Held core. -/
theorem State.dispatch_step_of_held {s : State} (he : s.plane.execState = .held) (hq : s.plane.cmdQ = [.step]) :
    s.dispatch = { s with plane := { s.plane with execState := .singleStepPending, cmdQ := [], skipBp := true } } := by
  simp only [State.dispatch, hq, State.applyCommands, State.command, State.commanded, Debug.single, he]
  rfl

/-- Settles O33: leaving Held sets SKIP_BP, so the step runs whatever breakpoint stands at PC, and a single step ends Held. -/
theorem singleStepFromHeld : Obligations.SingleStepFromHeld := by
  intro s he hq hr skip
  let s0 : State := { s with plane := { s.plane with execState := .singleStepPending, cmdQ := [], skipBp := true } }
  let s1 : State := s0.setDebug { s0.plane with skipBp := skip }
  obtain ⟨u, hu⟩ := s1.exists_engineStep
  obtain ⟨msgs, hit, hplane⟩ := State.messagesOnly_engineStep hu
  have hskip : s0.skipAfter = skip := Bool.and_true _
  have hpass : s0.runTick = s1.stepInTick := by
    rw [State.runTick_of_pass (s := s0) hr (ne_of_beq_false rfl) (.inl rfl), hskip]
  have hstep : step s = .next (u.afterStep true) := by
    rw [step, State.tick, State.dispatch_step_of_held he hq, hpass]
    exact State.stepInTick_eq_next.2 ⟨u, hu, rfl⟩
  refine ⟨u.afterStep true, u, hu, hstep, u.execState_afterStep_true, ?_, u.afterStep_eq true⟩
  rw [State.skipBp_afterStep, hplane]
  rfl

/-! The step of a quiet state (60_exceptions R402, R420, R421, R441, R460) -/

theorem State.nextInstr_of_decode {s : State} {i : Instr} {rest : List Byte}
    (h : decode [s.read8 s.pc, s.read8 (s.pc + 1), s.read8 (s.pc + 2), s.read8 (s.pc + 3)] = .ok (i, rest)) :
    s.nextInstr = i := by
  simp only [decode] at h
  split at h
  · cases h
    rfl
  · cases h

/-- A quiet tick is its engine step, and a match behind it. -/
theorem State.Quiet.step_eq {s : State} (h : s.Quiet) :
    step s = andThen (settle s (s.begin.act s.kind)) fun u => .next (u.afterStep false) := by
  obtain ⟨hq, he, hs, hc, hm, hr⟩ := h
  have hsame : s.skipAfter = s.plane.skipBp := by simp [State.skipAfter, hs]
  rw [step_of_empty hq, State.runTick_of_pass hr (by simp [he]) (.inr (.inr hc)), State.setDebug_skipAfter_of_eq hsame,
    State.stepInTick, State.engineStep_eq_settle hr hm, he]
  rfl

/-- Settles O6: the step is exec from the state with the deferral bits cleared; a match holds the core, and a refusal, which can only be that
of a control write, leaves the state with REFUSED. -/
theorem stepRunsTheInstruction : Obligations.StepRunsTheInstruction := by
  intro s i rest hquiet hk hdec
  have hi : s.nextInstr = i := State.nextInstr_of_decode hdec
  have hstep : step s = andThen (settle s (exec i s.begin)) fun u => .next (u.afterStep false) := by
    rw [hquiet.step_eq, hk, ← hi]
    rfl
  obtain ⟨-, -, -, -, hm, -⟩ := hquiet
  refine ⟨fun t ht hnone => ?next, fun t x ht hsome => ?hit, fun e he => ?refusal⟩
  case next => rw [hstep, State.begin, State.setCtl, ht, settle, andThen_next, State.afterStep_of_none hnone]
  case hit => rw [hstep, State.begin, State.setCtl, ht, settle, andThen_next, State.afterStep_of_some hsome]
  case refusal =>
    have hwf : i.wellFormed = true := hi ▸ s.wellFormed_nextInstr
    obtain ⟨_, ht, -⟩ | ⟨hr, -⟩ := answers_exec i s.begin hwf
    · cases ht.symm.trans he
    · cases hr.symm.trans he
      refine ⟨rfl, ?_⟩
      rw [hstep, hr]
      exact congrArg Host.Outcome.next (State.afterStep_of_none (s := s.setRefused true) hm)

end Sys2Proof.Machine
end

section
/-! PROOF. The family 60_exceptions: commands, messages and requests of the host. -/

namespace Sys2Proof.Machine

/-! Commands (60_exceptions R450 to R462) -/

theorem mem_addToSet {α : Type} [DecidableEq α] (xs : List α) (a x : α) : x ∈ addToSet xs a ↔ x = a ∨ x ∈ xs := by
  unfold addToSet
  split
  case isTrue h =>
    have ha : a ∈ xs := List.contains_iff_mem.1 h
    exact ⟨.inr, fun hx => hx.elim (fun hxa => hxa ▸ ha) id⟩
  case isFalse => rw [List.mem_append, List.mem_singleton, or_comm]

/-- A buffer within its capacity is shown whole (60_exceptions R445, R456). -/
theorem Debug.recent_of_length_le {g : Debug} {n : Nat} (h : g.msgs.length ≤ n) : g.recent n = g.msgs := by
  rw [Debug.recent, Nat.sub_eq_zero_of_le h, List.drop_zero]

theorem Debug.single_of_held {g : Debug} (h : g.execState = .held) :
    g.single = { g with execState := .singleStepPending, skipBp := true } := by
  rw [Debug.single, h]

theorem Debug.single_of_pending {g : Debug} (h : g.execState = .singleStepPending) : g.single = g := by
  rw [Debug.single, h]

theorem Debug.single_of_running {g : Debug} (h : g.execState = .running) :
    g.single = { g with execState := .singleStepPending } := by
  rw [Debug.single, h]

theorem Debug.resume_of_held {g : Debug} (h : g.execState = .held) :
    g.resume = { g with execState := .running, skipBp := true } := by
  rw [Debug.resume, h]

theorem Debug.resume_of_pending {g : Debug} (h : g.execState = .singleStepPending) :
    g.resume = { g with execState := .running } := by
  rw [Debug.resume, h]

theorem Debug.resume_of_running {g : Debug} (h : g.execState = .running) : g.resume = g := by
  rw [Debug.resume, h]

theorem State.command_of_commanded_eq {s : State} {c : Command} (h : s.commanded c = s.plane) : s.command c = s := by
  rw [State.command, h]
  rfl

/-- Settles O30: a command is one change of the registry and the debug control state; Step and Resume choose it by EXEC. -/
theorem commandEffects : Obligations.CommandEffects := by
  intro s
  refine ⟨fun c => ⟨s.commanded c, rfl⟩, rfl, fun h => ?held, fun h => ?pending, fun h => ?running,
    fun a x => ⟨mem_addToSet s.plane.pcBps a x, rfl⟩, rfl, fun p x => ⟨mem_addToSet s.plane.msgBps p x, rfl⟩, rfl,
    fun h => ?recent, rfl, fun a n => rfl, rfl⟩
  case held => exact ⟨Debug.resume_of_held h, Debug.single_of_held h⟩
  case pending => exact ⟨Debug.resume_of_pending h, State.command_of_commanded_eq (Debug.single_of_pending h)⟩
  case running => exact ⟨State.command_of_commanded_eq (Debug.resume_of_running h), Debug.single_of_running h⟩
  case recent =>
    show s.plane.report (.recentMessages (s.plane.recent s.params.msgCapacity)) = _
    rw [Debug.recent_of_length_le h]
    rfl

/-! The dispatcher (60_exceptions R451) -/

theorem State.applyCommands_cons_of_ne {c : Command} (h : c ≠ .step) (cs : List Command) (s : State) :
    State.applyCommands (c :: cs) s = State.applyCommands cs (s.command c) := by
  cases c
  case step => exact absurd rfl h
  all_goals rfl

/-- Commands before the first Step are applied one after the other. -/
theorem State.applyCommands_append {before : List Command} (h : Command.step ∉ before) (cs : List Command) (s : State) :
    State.applyCommands (before ++ cs) s = State.applyCommands cs (before.foldl State.command s) := by
  induction before generalizing s with
  | nil => rfl
  | cons c before ih =>
    obtain ⟨hc, hbefore⟩ := not_or.1 (mt List.mem_cons.2 h)
    rw [List.cons_append, State.applyCommands_cons_of_ne (Ne.symm hc), ih hbefore, List.foldl_cons]

/-- Settles O31: behind the commands before it, the queue is empty or begins with a Step. -/
theorem dispatchOrder : Obligations.DispatchOrder := by
  intro s before behind hno
  refine ⟨fun hq => ?all, fun hq => ?firstStep⟩
  case all =>
    rw [State.dispatch, hq, ← List.append_nil before, State.applyCommands_append hno, List.append_nil]
    rfl
  case firstStep =>
    rw [State.dispatch, hq, State.applyCommands_append hno]
    rfl

/-! Messages (60_exceptions R441, R444) -/

theorem startsWith_iff (p t : List Char) : startsWith p t = true ↔ p <+: t := by
  induction p generalizing t with
  | nil => simp [startsWith]
  | cons c p ih =>
    cases t with
    | nil => simp [startsWith]
    | cons d t => simp [startsWith, ih, List.cons_prefix_cons]

theorem infixOf_iff (p t : List Char) : infixOf p t = true ↔ p <:+: t := by
  induction t with
  | nil => simp [infixOf, startsWith_iff]
  | cons d t ih => rw [infixOf, Bool.or_eq_true, startsWith_iff, ih, List.infix_cons_iff]

theorem ringAppend_of_lt {n : Nat} {ts : List Text} (h : ts.length < n) (t : Text) : ringAppend n ts t = ts ++ [t] := by
  rw [ringAppend, if_neg (Nat.not_le.2 h)]

theorem ringAppend_of_eq {n : Nat} {ts : List Text} (h : ts.length = n) (t : Text) :
    ringAppend n ts t = ts.drop 1 ++ [t] := by
  rw [ringAppend, if_pos (Nat.le_of_eq h.symm)]

theorem Debug.checkMessage_iff (g : Debug) (m : Matcher) (t : Text) :
    g.checkMessage m t = true ↔ ∃ p ∈ g.msgBps, msgMatch m p t = true :=
  List.any_eq_true

/-- The mark of a message in a step without one. -/
theorem State.msgHit_emit {s : State} (h : s.plane.msgHit = none) (ev : MsgEvent) :
    (s.emit ev).plane.msgHit =
      if s.plane.checkMessage s.params.matcher (Config.msgText ev) then some (Config.msgText ev) else none := by
  unfold State.emit
  simp [h]

/-- Settles O34: the ring buffer drops its oldest when full, the mark is the test of the message breakpoints, and the default matcher asks
for a contiguous substring. -/
theorem messages : Obligations.Messages := by
  intro s ev text
  refine ⟨s.emit_eq ev, fun h => ringAppend_of_lt h text, fun h => ringAppend_of_eq h text, fun h => ?mark, fun h p t => ?matcher⟩
  case mark =>
    rw [← Debug.checkMessage_iff, State.msgHit_emit h]
    cases s.plane.checkMessage s.params.matcher (Config.msgText ev) <;> simp [text]
  case matcher =>
    rw [h]
    refine (infixOf_iff p.toList t.toList).trans ?_
    simp only [List.IsInfix, eq_comm]

/-! Requests (60_exceptions R466) -/

/-- Settles O35: a request is one pending bit, which the acceptance rule reads; a Held core with an empty queue does nothing. -/
theorem interruptRequest : Obligations.InterruptRequest := by
  intro s
  refine ⟨rfl, rfl, ?nmi, ?int, fun he hq m => ?held⟩
  case nmi =>
    rw [State.kind_eq_nmiAccept, Ctl.acceptsNmi_iff]
    simp [State.requestInterrupt]
  case int =>
    rw [State.kind_eq_intAccept, Ne, State.kind_eq_nmiAccept, Ctl.acceptsNmi_iff, Ctl.acceptsInt_iff]
    show ¬(s.ctl.nmiPending = true ∧ s.ctl.prefixDefer = false) ∧ true = true ∧ s.ctl.iff1 = true ∧
      s.ctl.eiDefer = false ∧ s.ctl.prefixDefer = false ↔ _
    cases s.ctl.nmiPending <;> simp +contextual
  case held =>
    have hplane : (s.requestInterrupt m).plane = s.plane := by cases m <;> rfl
    rw [State.tick, State.dispatch_of_empty (hplane ▸ hq), State.runTick_of_held (hplane ▸ he)]

end Sys2Proof.Machine
end

section
/-! PROOF. The family 70_reset_and_hazards: what `reset` leaves. -/

namespace Sys2Proof.Machine

/-- Settles O22: `reset` writes the fields it names and no other. -/
theorem cpuReset : Obligations.CpuReset := fun _ _ => rfl

end Sys2Proof.Machine
end

section
/-! PROOF. The whole machine: the invariant holds at reset, and every step keeps it (10_state R34, R36 to R38, R45, R46; 20_memory R71, R74,
R83, R93). -/

namespace Sys2Proof.Machine

/-! The invariant in three parts: the fields an effect keeps, the message mark, and the interrupt bits -/

/-- Memory, mapper, parameters and registry as the invariant has them. -/
def State.Lasting (s : State) : Prop :=
  s.store.wf = true ∧ 1 ≤ s.params.msgCapacity ∧ s.plane.msgs.length ≤ s.params.msgCapacity ∧ 1 ≤ s.params.disasmCount ∧
    s.plane.pcBps.Nodup ∧ s.plane.msgBps.Nodup

/-- The interrupt bits as the invariant has them (10_state R34, R36 to R38). -/
def Ctl.Sound (k : Ctl) : Prop :=
  (k.iff1 = true → k.iff2 = true) ∧
    (k.eiDefer = true → k.iff1 = true ∧ k.prefixDefer = false ∧ k.halted = false) ∧ (k.prefixDefer = true → k.halted = false)

theorem State.inv_iff (s : State) : s.Inv ↔ s.Lasting ∧ s.plane.msgHit = none ∧ s.ctl.Sound := by
  simp only [State.Inv, State.Lasting, Ctl.Sound, and_assoc]

/-- Register changes, byte writes that are not refused and messages keep memory, mapper and registry in form. -/
theorem State.Effect.lasting {s t : State} (h : s.Effect t) (hs : s.Lasting) : t.Lasting := by
  induction h with
  | refl => exact hs
  | regs _ hr ih =>
    obtain ⟨hstore, hplane, hparams, _⟩ := hr
    unfold State.Lasting
    rw [hstore, hplane, hparams]
    exact ih
  | write a v _ hw ih =>
    obtain ⟨hwf, hrest⟩ := ih
    exact ⟨Store.wf_write hw hwf, hrest⟩
  | emit ev _ ih =>
    obtain ⟨hwf, hcap, hlen, hrest⟩ := ih
    exact ⟨hwf, hcap, length_ringAppend _ hcap hlen, hrest⟩

/-! The interrupt bits -/

theorem State.halted_of_kind_eq_instr {s : State} (h : s.kind = .instr) : s.ctl.halted = false := by
  rw [← Bool.not_eq_true]
  intro hh
  have hidle : s.kind = .idle := s.kind_eq_idle.2 ⟨by simp [h], by simp [h], hh⟩
  cases hidle.symm.trans h

/-- A row keeps the interrupt bits sound at the start of a step, where no deferral stands and the core is not halted. -/
theorem Instr.sound_ctlAfter (i : Instr) {k : Ctl} (hi : k.iff1 = true → k.iff2 = true) (he : k.eiDefer = false)
    (hp : k.prefixDefer = false) (hh : k.halted = false) : (i.ctlAfter k).Sound := by
  cases i
  case retn | reti => exact ⟨id, by simp [Instr.ctlAfter, he], by simp [Instr.ctlAfter, hp]⟩
  all_goals simp [Instr.ctlAfter, Ctl.Sound, he, hp, hh] <;> exact hi

theorem State.sound_ctlAfter {s : State} {k : StepKind} (hi : s.ctl.iff1 = true → s.ctl.iff2 = true)
    (he : s.ctl.eiDefer = false) (hp : s.ctl.prefixDefer = false) (hh : k = .instr → s.ctl.halted = false) :
    (s.ctlAfter k).Sound := by
  cases k with
  | instr => exact Instr.sound_ctlAfter _ hi he hp (hh rfl)
  | idle => exact ⟨hi, by simp [State.ctlAfter, he], by simp [State.ctlAfter, hp]⟩
  | nmiAccept | intAccept => simp [State.ctlAfter, Ctl.intTaken, Ctl.Sound, he, hp]

/-! The step -/

/-- An engine step keeps all but the message mark, which the tick reports. -/
theorem State.Inv.engineStep {s t : State} (h : s.Inv) (hstep : s.engineStep = .next t) : t.Lasting ∧ t.ctl.Sound := by
  obtain ⟨hlast, -, hsound⟩ := s.inv_iff.1 h
  obtain ⟨-, rfl⟩ | ⟨-, hact⟩ | ⟨-, _, -, -, rfl⟩ := State.engineStep_eq_next.1 hstep
  · exact ⟨hlast, hsound⟩
  · refine ⟨(State.effects_act _ _ t hact).lasting hlast, ?_⟩
    obtain ⟨hiff, -, -⟩ := hsound
    rw [State.ctl_of_act hact]
    exact State.sound_ctlAfter hiff rfl rfl State.halted_of_kind_eq_instr
  · exact ⟨hlast, hsound⟩

/-- What follows the step leaves no message marked. -/
theorem State.inv_afterStep {s : State} (h : s.Lasting) (hk : s.ctl.Sound) (b : Bool) : (s.afterStep b).Inv := by
  rw [State.inv_iff]
  unfold State.afterStep
  cases hm : s.plane.msgHit with
  | some x => exact ⟨h, rfl, hk⟩
  | none => cases b <;> exact ⟨h, hm, hk⟩

theorem State.Inv.stepInTick {s t : State} (h : s.Inv) (hstep : s.stepInTick = .next t) : t.Inv := by
  obtain ⟨u, hu, rfl⟩ := State.stepInTick_eq_next.1 hstep
  obtain ⟨hlast, hsound⟩ := h.engineStep hu
  exact State.inv_afterStep hlast hsound _

/-! The commands -/

theorem nodup_addToSet {α : Type} [DecidableEq α] {xs : List α} (h : xs.Nodup) (x : α) : (addToSet xs x).Nodup := by
  unfold addToSet
  split
  case isTrue => exact h
  case isFalse hx =>
    have hmem : x ∉ xs := fun hin => hx (List.contains_iff_mem.2 hin)
    have hone : [x].Nodup := List.nodup_cons.2 ⟨List.not_mem_nil, List.nodup_nil⟩
    refine List.nodup_append.2 ⟨h, hone, fun a ha b hb hab => hmem ?_⟩
    rw [← List.mem_singleton.1 hb, ← hab]
    exact ha

/-- Step and Resume choose EXEC and SKIP_BP alone (60_exceptions R457, R458). -/
theorem Debug.single_eq (g : Debug) : g.single = { g with execState := g.single.execState, skipBp := g.single.skipBp } := by
  unfold Debug.single
  split <;> rfl

theorem Debug.resume_eq (g : Debug) : g.resume = { g with execState := g.resume.execState, skipBp := g.resume.skipBp } := by
  unfold Debug.resume
  split <;> rfl

theorem State.Inv.command {s : State} (h : s.Inv) (c : Command) : (s.command c).Inv := by
  obtain ⟨⟨hwf, hcap, hlen, hcount, hpc, hmsg⟩, hhit, hsound⟩ := s.inv_iff.1 h
  cases c with
  | step =>
    rw [State.command_eq, State.commanded, Debug.single_eq]
    exact h
  | resume =>
    rw [State.command_eq, State.commanded, Debug.resume_eq]
    exact h
  | breakAtPc a => exact (State.inv_iff _).2 ⟨⟨hwf, hcap, hlen, hcount, nodup_addToSet hpc a, hmsg⟩, hhit, hsound⟩
  | breakAtMessage p => exact (State.inv_iff _).2 ⟨⟨hwf, hcap, hlen, hcount, hpc, nodup_addToSet hmsg p⟩, hhit, hsound⟩
  | removePcBreakpoints => exact (State.inv_iff _).2 ⟨⟨hwf, hcap, hlen, hcount, List.nodup_nil, hmsg⟩, hhit, hsound⟩
  | removeBreakMessages => exact (State.inv_iff _).2 ⟨⟨hwf, hcap, hlen, hcount, hpc, List.nodup_nil⟩, hhit, hsound⟩
  | hold | showRecentMessages | status | disassemble => exact h

/-- The invariant does not ask which commands wait. -/
theorem State.Inv.setQueue {s : State} (h : s.Inv) (cs : List Command) : (s.setQueue cs).Inv := h

theorem State.Inv.applyCommands {s : State} (h : s.Inv) (cs : List Command) : (State.applyCommands cs s).Inv := by
  induction cs generalizing s with
  | nil => exact h.setQueue []
  | cons c cs ih =>
    by_cases hc : c = .step
    · subst hc
      exact (h.command .step).setQueue cs
    · rw [State.applyCommands_cons_of_ne hc]
      exact ih (h.command c)

/-- Settles O10: commands keep the invariant, and so do a breakpoint and a step; the step starts with no deferral, from a core that is not
halted where it runs an instruction. -/
theorem everyStepKeepsInv : Obligations.EveryStepKeepsInv := by
  intro s t h hstep
  have hd : s.dispatch.Inv := h.applyCommands _
  obtain hnone | ⟨-, hbreak⟩ | hrun := s.dispatch.runTick_cases
  · cases hnone.symm.trans hstep
    exact hd
  · cases hbreak.symm.trans hstep
    exact hd
  · have hskip : (s.dispatch.setDebug { s.dispatch.plane with skipBp := s.dispatch.skipAfter }).Inv := hd
    exact hskip.stepInTick (hrun.symm.trans hstep)

/-- Settles O8: nothing is listed, nothing pending and nothing enabled at reset. -/
theorem invAtReset : Obligations.InvAtReset :=
  ⟨Store.reset_wf, by decide, by decide, by decide, List.nodup_nil, List.nodup_nil, rfl, nofun, nofun, nofun⟩

end Sys2Proof.Machine
end

section
/-! PROOF. The whole machine: the start state of 95_test_vectors, and snapshots (10_state R50, R51; 60_exceptions R467, R468). -/

namespace Sys2Proof.Machine

/-- A memory of zeros lists nothing (log entry 2). -/
theorem Memory.ofBytes_replicate_zero (n k : Nat) : Memory.ofBytes k (List.replicate n 0) = [] := by
  induction n generalizing k with
  | zero => rfl
  | succ n ih => exact (if_pos rfl).trans (ih (k + 1))

/-- Settles O9: 48 KiB is a length the kind None takes, and an image of zeros is the empty memory. -/
theorem resetIsTheStartState : Obligations.ResetIsTheStartState := by
  refine configure_eq_next.2 ⟨.noMapper, ⟨rfl, ?length, ?ram⟩, ?state⟩
  case length => rw [List.length_replicate]; rfl
  case ram => decide
  case state =>
    simp only [Configuration.built, Configuration.store, Memory.ofBytes_replicate_zero, List.length_replicate]
    rfl

/-- Restoring needs a store in form and the same configuration (60_exceptions R468). -/
theorem State.restore_snapshot (s u : State) (h : s.store.wf = true) :
    u.restore s.snapshot =
      if u.store.compatible s.store then
        .next { s with plane := u.plane, refused := u.refused, params := u.params, io := u.io, draws := u.draws }
      else .fault .invalidSnapshot := by
  simp [State.restore, State.snapshot, h]

theorem Store.compatible_iff (st st' : Store) :
    st.compatible st' = true ↔
      st.mapper.kind = st'.mapper.kind ∧ st.ramSize = st'.ramSize ∧ st.romLen = st'.romLen ∧ st.rom = st'.rom := by
  simp [Store.compatible, and_assoc]

/-- Settles O36: `restore` asks for the same configuration, and then takes every field of the snapshot. -/
theorem snapshotRestore : Obligations.SnapshotRestore := by
  intro s u hwf
  rw [State.restore_snapshot s u hwf]
  refine ⟨fun hkind hram hlen hrom => ?same, fun hdiff => ?other⟩
  case same =>
    rw [if_pos ((Store.compatible_iff ..).2 ⟨hkind, hram, hlen, hrom⟩)]
    exact ⟨_, rfl, rfl, rfl, rfl, rfl⟩
  case other =>
    refine if_neg fun hc => ?_
    obtain ⟨hkind, hram, hlen, hrom⟩ := (Store.compatible_iff ..).1 hc
    simp [hkind, hram, hlen, hrom] at hdiff

end Sys2Proof.Machine
end

section
/-! SUPPORT. The opcode byte and its fields (30_encoding R112), and instructions an ignored DD or FD stands before (R125). -/

namespace Sys2Proof

/-! Fields -/

theorem opX_opFields {x y z : Nat} (hx : x < 4) (hy : y < 8) (hz : z < 8) : opX (opFields x y z) = x := by
  unfold opX opFields
  rw [BitVec.extractLsb'_toNat, BitVec.toNat_ofNat, Nat.shiftRight_eq_div_pow]
  omega

theorem opY_opFields (x : Nat) {y z : Nat} (hy : y < 8) (hz : z < 8) : opY (opFields x y z) = y := by
  unfold opY opFields
  rw [BitVec.extractLsb'_toNat, BitVec.toNat_ofNat, Nat.shiftRight_eq_div_pow]
  omega

theorem opZ_opFields (x y : Nat) {z : Nat} (hz : z < 8) : opZ (opFields x y z) = z := by
  unfold opZ opFields
  rw [BitVec.extractLsb'_toNat, BitVec.toNat_ofNat, Nat.shiftRight_eq_div_pow]
  omega

theorem opBits_opFields (x : Nat) {z : Nat} (b : BitVec 3) (hz : z < 8) : opBits (opFields x b.toNat z) = b :=
  BitVec.eq_of_toNat_eq (opY_opFields x b.isLt hz)

theorem lowBits_opFields (x y : Nat) (z : BitVec 3) : (opFields x y z.toNat).extractLsb' 0 3 = z :=
  BitVec.eq_of_toNat_eq (opZ_opFields x y z.isLt)

/-! Lengths -/

theorem Instr.length_pos (i : Instr) : 1 ≤ i.length := by
  cases i <;> exact Nat.succ_pos _

theorem Instr.length_le_four {i : Instr} (h : i.wellFormed = true) : i.length ≤ 4 := by
  cases i
  case ignoredDd base | ignoredFd base =>
    refine (Laws.EncodeLength.length_of_ignored (base := base) ?_ h).2
    rfl
  all_goals exact Nat.le_of_ble_eq_true rfl

/-! Ignored prefixes -/

/-- An ignored DD or FD with the base instruction behind it (30_encoding R125). -/
def Instr.isIgnored : Instr → Bool
  | .ignoredDd _ => true
  | .ignoredFd _ => true
  | _ => false

theorem Instr.encode_of_not_isIgnored {i : Instr} (h : i.isIgnored = false) : i.encode = i.encodeRow := by
  cases i
  case ignoredDd | ignoredFd => cases h
  all_goals rfl

/-- The prefix byte that selects an index register (30_encoding R121). -/
def Idx.prefixByte : Idx → Byte
  | .ix => 0xDD
  | .iy => 0xFD

theorem decode4_of_not_prefix {op : Byte} (h : op ≠ 0xCB ∧ op ≠ 0xED ∧ op ≠ 0xDD ∧ op ≠ 0xFD) (b1 b2 b3 : Byte) :
    decode4 op b1 b2 b3 = decodeBase op b1 b2 b3 := by
  obtain ⟨hcb, hed, hdd, hfd⟩ := h
  simp only [decode4, if_neg hcb, if_neg hed, if_neg hdd, if_neg hfd]

theorem isIgnored_decodeBase (op b1 b2 b3 : Byte) : (decodeBase op b1 b2 b3).isIgnored = false := by
  revert op
  exact of_decide_eq_true rfl

theorem isIgnored_decodeCb (op : Byte) : (decodeCb op).isIgnored = false := by
  revert op
  exact of_decide_eq_true rfl

theorem isIgnored_decodeEd (op b2 b3 : Byte) : (decodeEd op b2 b3).isIgnored = false := by
  revert op
  exact of_decide_eq_true rfl

theorem isIgnored_decodeXyCb (x : Idx) (d op : Byte) : (decodeXyCb x d op).isIgnored = false := by
  revert op
  cases x <;> exact of_decide_eq_true rfl

theorem isIgnored_decodeXy (x : Idx) (op b2 b3 : Byte) (hcb : op ≠ 0xCB) :
    (decodeXy x op b2 b3).isIgnored = (decodeBase op b2 b3 0).ignoresIndex := by
  revert op
  cases x <;> exact of_decide_eq_true rfl

/-! The set AFF (30_encoding R123) -/

theorem ignoresIndex_of_affected (b1 b2 b3 : Byte) : ∀ op ∈ affected, (decodeBase op b1 b2 b3).ignoresIndex = false := by
  have hall : (affected.all fun op => !(decodeBase op b1 b2 b3).ignoresIndex) = true := rfl
  exact fun op hop => by simpa using List.all_eq_true.1 hall op hop

theorem mem_of_toNat_mem {op : Byte} {bs : List Byte} (h : op.toNat ∈ bs.map BitVec.toNat) : op ∈ bs := by
  obtain ⟨b, hb, he⟩ := List.mem_map.1 h
  exact BitVec.eq_of_toNat_eq he ▸ hb

theorem ignoresIndex_or_affected (op b1 b2 b3 : Byte) :
    (decodeBase op b1 b2 b3).ignoresIndex = true ∨ op ∈ affected ∨ op = 0xED ∨ op = 0xDD ∨ op = 0xFD := by
  have hmem : (decodeBase op b1 b2 b3).ignoresIndex = true ∨ op.toNat ∈ affected.map BitVec.toNat ∨
      op = 0xED ∨ op = 0xDD ∨ op = 0xFD := by
    revert op
    exact of_decide_eq_true rfl
  exact hmem.imp_right (Or.imp_left mem_of_toNat_mem)

theorem not_prefix_of_ignoresIndex {op b1 b2 b3 : Byte} (h : (decodeBase op b1 b2 b3).ignoresIndex = true) :
    op ≠ 0xED ∧ op ≠ 0xDD ∧ op ≠ 0xFD := by
  refine ⟨?_, ?_, ?_⟩ <;> rintro rfl <;> cases h

/-- The opcodes outside the set AFF but the prefix bytes are those of the rows that name no index register (30_encoding R123). -/
theorem ignoresIndex_decodeBase_iff {op : Byte} (h : op ≠ 0xED ∧ op ≠ 0xDD ∧ op ≠ 0xFD) (b1 b2 b3 : Byte) :
    (decodeBase op b1 b2 b3).ignoresIndex = true ↔ op ∉ affected := by
  constructor
  · intro hi ha
    exact absurd hi (Bool.eq_false_iff.1 (ignoresIndex_of_affected b1 b2 b3 op ha))
  · intro ha
    obtain ⟨hed, hdd, hfd⟩ := h
    exact (ignoresIndex_or_affected op b1 b2 b3).resolve_right
      (not_or.2 ⟨ha, not_or.2 ⟨hed, not_or.2 ⟨hdd, hfd⟩⟩⟩)

/-- Where the tables of DD and FD answer an ignored prefix, the base table has the instruction behind it. -/
theorem decodeXy_of_isIgnored {x : Idx} {op b2 b3 : Byte} :
    (decodeXy x op b2 b3).isIgnored = true → decodeXy x op b2 b3 = decodeIgnored x op b2 b3 := by
  unfold decodeXy
  split
  · unfold decodeXy0
    split
    case h_19 => exact fun _ => rfl
    all_goals cases x <;> nofun
  · unfold decodeXy1
    split
    case h_1 => exact fun _ => rfl
    case h_4 =>
      split
      case isFalse => exact fun _ => rfl
      case isTrue => cases x <;> nofun
    all_goals cases x <;> nofun
  · unfold decodeXy2
    split
    case h_4 => exact fun _ => rfl
    case h_3 => unfold decodeAluAtXy; split <;> cases x <;> nofun
    all_goals unfold decodeAluHalf; split <;> cases x <;> nofun
  · unfold decodeXy3
    split
    case h_10 => exact fun _ => rfl
    case h_4 => simp [isIgnored_decodeXyCb]
    all_goals cases x <;> nofun

end Sys2Proof
end

section
/-! SUPPORT. The encoding of what the decoder answers is the bytes it was read from (30_encoding R136): the opcode byte, opcode by opcode,
and the operand bytes, row by row. -/

namespace Sys2Proof
open Machine

/-- A list begins another where its first n elements and its rest do. -/
theorem prefix_of_take_of_drop {α : Type} {n : Nat} {l m : List α} (ht : l.take n <+: m.take n) (hd : l.drop n <+: m.drop n) :
    l <+: m := by
  induction n generalizing l m with
  | zero => exact hd
  | succ n ih =>
    cases l with
    | nil => exact List.nil_prefix
    | cons a l =>
      cases m with
      | nil => simp at ht
      | cons b m =>
        rw [List.take_succ_cons, List.take_succ_cons, List.cons_prefix_cons] at ht
        obtain ⟨rfl, ht⟩ := ht
        exact List.cons_prefix_cons.2 ⟨rfl, ih ht hd⟩

theorem prefix_drop {α : Type} {l m : List α} (n : Nat) (h : l <+: m) : l.drop n <+: m.drop n := by
  obtain ⟨t, rfl⟩ := h
  rw [List.drop_append]
  exact List.prefix_append _ _

/-! The base table (30_encoding R118) -/

theorem word_prefix (b1 b2 : Byte) (bs : List Byte) : [lo (join b2 b1), hi (join b2 b1)] <+: b1 :: b2 :: bs := by
  rw [lo_join, hi_join]
  exact ⟨bs, rfl⟩

theorem operands_decodeBase0 (op b1 b2 b3 : Byte) : (decodeBase0 op b1 b2).encodeRow.drop 1 <+: [b1, b2, b3] := by
  unfold decodeBase0
  split
  case h_3 | h_4 | h_5 | h_20 | h_21 => exact ⟨[b2, b3], rfl⟩
  case h_11 | h_12 | h_13 | h_14 => exact word_prefix b1 b2 [b3]
  case h_6 =>
    split
    · exact word_prefix b1 b2 [b3]
    · exact List.nil_prefix
  case h_15 => split <;> exact List.nil_prefix
  all_goals exact List.nil_prefix

theorem operands_decodeBase1 (op b1 b2 b3 : Byte) : (decodeBase1 op).encodeRow.drop 1 <+: [b1, b2, b3] := by
  unfold decodeBase1
  split <;> exact List.nil_prefix

theorem operands_decodeBase2 (op b1 b2 b3 : Byte) : (decodeBase2 op).encodeRow.drop 1 <+: [b1, b2, b3] := by
  unfold decodeBase2
  split
  · unfold decodeAluAtHl
    split <;> exact List.nil_prefix
  · unfold decodeAluR
    split <;> exact List.nil_prefix

theorem operands_decodeBase3 (op b1 b2 b3 : Byte) : (decodeBase3 op b1 b2 b3).encodeRow.drop 1 <+: [b1, b2, b3] := by
  unfold decodeBase3
  split
  case h_9 | h_10 | h_11 => exact ⟨[b2, b3], rfl⟩
  case h_7 | h_8 | h_16 | h_17 => exact word_prefix b1 b2 [b3]
  case h_18 | h_19 | h_20 => exact List.prefix_rfl
  case h_22 => unfold decodeAluN; split <;> exact ⟨[b2, b3], rfl⟩
  all_goals exact List.nil_prefix

theorem encodeRow_decodeBase (op b1 b2 b3 : Byte) : (decodeBase op b1 b2 b3).encodeRow <+: [op, b1, b2, b3] := by
  refine prefix_of_take_of_drop (n := 1) ?opcode ?operands
  case opcode =>
    revert op
    exact of_decide_eq_true rfl
  case operands =>
    unfold decodeBase
    split
    · exact operands_decodeBase0 op b1 b2 b3
    · exact operands_decodeBase1 op b1 b2 b3
    · exact operands_decodeBase2 op b1 b2 b3
    · exact operands_decodeBase3 op b1 b2 b3

theorem length_encodeRow_decodeBase (op : Byte) (h : op ≠ 0xED ∧ op ≠ 0xDD ∧ op ≠ 0xFD) (b1 b2 b3 : Byte) :
    (decodeBase op b1 b2 b3).encodeRow.length ≤ 3 := by
  rw [← List.drop_eq_nil_iff]
  revert op
  exact of_decide_eq_true rfl

/-! The tables of CB and ED (30_encoding R119, R120) -/

theorem encodeRow_decodeCb (op b2 b3 : Byte) : (decodeCb op).encodeRow <+: [0xCB, op, b2, b3] := by
  have htwo : (decodeCb op).encodeRow = [0xCB, op] := by
    revert op
    exact of_decide_eq_true rfl
  exact htwo ▸ List.prefix_append [0xCB, op] [b2, b3]

theorem operands_decodeEd1 (op b2 b3 : Byte) : (decodeEd1 op b2 b3).encodeRow.drop 2 <+: [b2, b3] := by
  unfold decodeEd1
  split
  case h_5 => split <;> exact List.nil_prefix
  case h_6 => split <;> exact word_prefix b2 b3 []
  all_goals exact List.nil_prefix

theorem encodeRow_decodeEd (op b2 b3 : Byte) : (decodeEd op b2 b3).encodeRow <+: [0xED, op, b2, b3] := by
  refine prefix_of_take_of_drop (n := 2) ?opcode ?operands
  case opcode =>
    revert op
    exact of_decide_eq_true rfl
  case operands =>
    unfold decodeEd
    split
    case h_2 => exact operands_decodeEd1 op b2 b3
    case h_3 => unfold decodeEd2; split <;> exact List.nil_prefix
    all_goals exact List.nil_prefix

/-! The tables of DD and FD (30_encoding R121 to R127) -/

theorem encodeRow_decodeXyCb (x : Idx) (d op : Byte) : (decodeXyCb x d op).encodeRow <+: [x.prefixByte, 0xCB, d, op] := by
  refine prefix_of_take_of_drop (n := 3) ?operands ?opcode
  case opcode =>
    revert op
    cases x <;> exact of_decide_eq_true rfl
  case operands =>
    unfold decodeXyCb
    split
    case h_1 => unfold decodeRotAtXy; split <;> cases x <;> exact List.prefix_rfl
    case h_2 => unfold decodeRotAtXyR; split <;> cases x <;> exact List.prefix_rfl
    all_goals cases x <;> exact List.prefix_rfl

/-- A row that is an ignored prefix has no operand of its own. -/
theorem operands_decodeXy (x : Idx) (op b2 b3 : Byte) : (decodeXy x op b2 b3).encodeRow.drop 2 <+: [b2, b3] := by
  unfold decodeXy
  split
  · unfold decodeXy0
    split
    case h_1 | h_6 | h_7 => cases x <;> exact word_prefix b2 b3 []
    case h_12 | h_15 | h_16 | h_17 => cases x <;> exact ⟨[b3], rfl⟩
    case h_18 => cases x <;> exact List.prefix_rfl
    all_goals cases x <;> exact List.nil_prefix
  · unfold decodeXy1
    split
    case h_2 | h_3 => cases x <;> exact ⟨[b3], rfl⟩
    case h_4 => split <;> cases x <;> exact List.nil_prefix
    case h_1 => cases x <;> exact List.nil_prefix
  · unfold decodeXy2
    split
    case h_3 => unfold decodeAluAtXy; split <;> cases x <;> exact ⟨[b3], rfl⟩
    case h_4 => cases x <;> exact List.nil_prefix
    all_goals unfold decodeAluHalf; split <;> cases x <;> exact List.nil_prefix
  · unfold decodeXy3
    split
    case h_4 => exact prefix_drop 2 (encodeRow_decodeXyCb x b2 b3)
    all_goals cases x <;> exact List.nil_prefix

theorem encode_decodeIgnored (x : Idx) {op : Byte} (h : op ≠ 0xED ∧ op ≠ 0xDD ∧ op ≠ 0xFD) (b2 b3 : Byte) :
    (decodeIgnored x op b2 b3).encode <+: [x.prefixByte, op, b2, b3] := by
  have hbase : (decodeBase op b2 b3 0).encodeRow <+: [op, b2, b3] :=
    List.prefix_take_iff.2 ⟨encodeRow_decodeBase op b2 b3 0, length_encodeRow_decodeBase op h b2 b3 0⟩
  cases x <;> exact List.cons_prefix_cons.2 ⟨rfl, hbase⟩

theorem encode_decodeXy (x : Idx) (op b2 b3 : Byte) : (decodeXy x op b2 b3).encode <+: [x.prefixByte, op, b2, b3] := by
  by_cases hcb : op = 0xCB
  · subst hcb
    exact Instr.encode_of_not_isIgnored (isIgnored_decodeXyCb x b2 b3) ▸ encodeRow_decodeXyCb x b2 b3
  cases hi : (decodeXy x op b2 b3).isIgnored with
  | true =>
    have hop := not_prefix_of_ignoresIndex ((isIgnored_decodeXy x op b2 b3 hcb).symm.trans hi)
    exact decodeXy_of_isIgnored hi ▸ encode_decodeIgnored x hop b2 b3
  | false =>
    rw [Instr.encode_of_not_isIgnored hi]
    refine prefix_of_take_of_drop (n := 2) ?opcode (operands_decodeXy x op b2 b3)
    case opcode =>
      clear hi
      revert op
      cases x <;> exact of_decide_eq_true rfl

/-- Whatever the four bytes, the encoding of the instruction they hold is their beginning. -/
theorem encode_decode4 (b0 b1 b2 b3 : Byte) : (decode4 b0 b1 b2 b3).encode <+: [b0, b1, b2, b3] := by
  unfold decode4
  split
  case isTrue h => exact h ▸ Instr.encode_of_not_isIgnored (isIgnored_decodeCb b1) ▸ encodeRow_decodeCb b1 b2 b3
  split
  case isTrue h => exact h ▸ Instr.encode_of_not_isIgnored (isIgnored_decodeEd b1 b2 b3) ▸ encodeRow_decodeEd b1 b2 b3
  split
  case isTrue h => exact h ▸ encode_decodeXy .ix b1 b2 b3
  split
  case isTrue h => exact h ▸ encode_decodeXy .iy b1 b2 b3
  exact Instr.encode_of_not_isIgnored (isIgnored_decodeBase b0 b1 b2 b3) ▸ encodeRow_decodeBase b0 b1 b2 b3

end Sys2Proof
end

section
/-! SUPPORT. The decoder answers an instruction wherever its encoding stands (30_encoding R110 to R129). -/

namespace Sys2Proof
open Machine

/-! Rows whose opcode byte holds the code of an operand (30_encoding R113 to R117), one family at a time -/

theorem decode4_opFields {x y z : Nat} (hx : x < 3) (hy : y < 8) (hz : z < 8) (b1 b2 b3 : Byte) :
    decode4 (opFields x y z) b1 b2 b3 = decodeBase (opFields x y z) b1 b2 b3 := by
  have hne {op : Byte} (hop : opX op = 3) : opFields x y z ≠ op := by
    rintro rfl
    rw [opX_opFields (by omega) hy hz] at hop
    omega
  exact decode4_of_not_prefix ⟨hne rfl, hne rfl, hne rfl, hne rfl⟩ b1 b2 b3

theorem Reg8.code_lt (r : Reg8) : r.code < 8 := by cases r <;> decide

theorem bits_cases {motive : BitVec 3 → Prop} (h0 : motive 0) (h1 : motive 1) (h2 : motive 2) (h3 : motive 3) (h4 : motive 4)
    (h5 : motive 5) (h6 : motive 6) (h7 : motive 7) (b : BitVec 3) : motive b := by
  obtain ⟨⟨n, hn⟩⟩ := b
  have hlt : n < 8 := hn
  match n, hlt with
  | 0, _ => exact h0
  | 1, _ => exact h1
  | 2, _ => exact h2
  | 3, _ => exact h3
  | 4, _ => exact h4
  | 5, _ => exact h5
  | 6, _ => exact h6
  | 7, _ => exact h7

theorem opX_opLow6 {x : Nat} (hx : x < 4) (op : BitVec 6) : opX (opLow6 x op) = x := by
  have hop : op.toNat < 64 := op.isLt
  unfold opX opLow6
  rw [BitVec.extractLsb'_toNat, BitVec.toNat_ofNat, Nat.shiftRight_eq_div_pow]
  omega

theorem lowBits_opLow6 (x : Nat) (op : BitVec 6) : (opLow6 x op).extractLsb' 0 6 = op := by
  have hop : op.toNat < 64 := op.isLt
  apply BitVec.eq_of_toNat_eq
  unfold opLow6
  rw [BitVec.extractLsb'_toNat, BitVec.toNat_ofNat, Nat.shiftRight_eq_div_pow]
  omega

/-- The block instructions have y at least 4 and z at most 3 (30_encoding R120). -/
theorem decodeEd2_of_not_block {op : Byte} (h : ¬ (4 ≤ opY op ∧ opZ op ≤ 3)) :
    decodeEd2 op = .nopEd2 (op.extractLsb' 0 6) := by
  unfold decodeEd2
  split
  case h_17 => rfl
  all_goals omega

theorem not_block_of_opLow6 (op : BitVec 6) :
    (!(op.getLsbD 5 && !op.getLsbD 2)) = true → ¬ (4 ≤ opY (opLow6 2 op) ∧ opZ (opLow6 2 op) ≤ 3) := by
  revert op
  decide

theorem decode4_ldRR (r r2 : Reg8) (b1 b2 b3 : Byte) : decode4 (opFields 1 r.code r2.code) b1 b2 b3 = .ldRR r r2 := by
  cases r <;> cases r2 <;> rfl

theorem decode4_aluR {y : Nat} (hy : y < 8) (r : Reg8) (b1 b2 b3 : Byte) :
    decode4 (opFields 2 y r.code) b1 b2 b3 = decodeAluR y r := by
  rw [decode4_opFields (by decide) hy r.code_lt]
  cases r <;> simp [decodeBase, decodeBase2, Reg8.code, Reg8.ofCode, opX_opFields, opY_opFields, opZ_opFields, hy]

section
variable (x : Idx) (b2 b3 : Byte)

theorem decodeXy_ldRRXy {r r2 : RegX} (h : (r.isHalf || r2.isHalf) = true) :
    decodeXy x (opFields 1 r.code r2.code) b2 b3 = x.pick (.ldRRIx r r2) (.ldRRIy r r2) := by
  cases r
  case xh | xl => cases r2 <;> rfl
  all_goals
    cases r2
    case xh | xl => rfl
    all_goals cases h

theorem decodeXy_aluHalf {y : Nat} (hy : y < 8) (half : Half) :
    decodeXy x (opFields 2 y half.code) b2 b3 = decodeAluHalf x y half := by
  cases half <;> simp [decodeXy, decodeXy2, Half.code, opX_opFields, opY_opFields, opZ_opFields, hy]

end

section
variable {y : Nat} (hy : y < 8) (r : Reg8) (b2 b3 : Byte)
include hy

theorem decode4_rotR : decode4 0xCB (opFields 0 y r.code) b2 b3 = decodeRotR y r := by
  show decodeCb _ = _
  cases r <;> simp [decodeCb, Reg8.code, Reg8.ofCode, opX_opFields, opY_opFields, opZ_opFields, hy]

theorem decodeXyCb_rotR (x : Idx) (d : Byte) : decodeXyCb x d (opFields 0 y r.code) = decodeRotAtXyR x y d r := by
  cases r <;> simp [decodeXyCb, Reg8.code, Reg8.ofCode, opX_opFields, opY_opFields, opZ_opFields, hy]

end

section
variable (b : BitVec 3) (r : Reg8)

theorem decodeCb_bitR : decodeCb (opFields 1 b.toNat r.code) = .bitR b r := by
  have hb : b.toNat < 8 := b.isLt
  cases r <;> simp [decodeCb, Reg8.code, Reg8.ofCode, opX_opFields, opZ_opFields, opBits_opFields, hb]

theorem decodeCb_resR : decodeCb (opFields 2 b.toNat r.code) = .resR b r := by
  have hb : b.toNat < 8 := b.isLt
  cases r <;> simp [decodeCb, Reg8.code, Reg8.ofCode, opX_opFields, opZ_opFields, opBits_opFields, hb]

theorem decodeCb_setR : decodeCb (opFields 3 b.toNat r.code) = .setR b r := by
  have hb : b.toNat < 8 := b.isLt
  cases r <;> simp [decodeCb, Reg8.code, Reg8.ofCode, opX_opFields, opZ_opFields, opBits_opFields, hb]

variable (x : Idx) (d : Byte)

theorem decodeXyCb_resR :
    decodeXyCb x d (opFields 2 b.toNat r.code) = x.pick (.resAtIxR b d r) (.resAtIyR b d r) := by
  have hb : b.toNat < 8 := b.isLt
  cases r <;> simp [decodeXyCb, Reg8.code, Reg8.ofCode, opX_opFields, opZ_opFields, opBits_opFields, hb]

theorem decodeXyCb_setR :
    decodeXyCb x d (opFields 3 b.toNat r.code) = x.pick (.setAtIxR b d r) (.setAtIyR b d r) := by
  have hb : b.toNat < 8 := b.isLt
  cases r <;> simp [decodeXyCb, Reg8.code, Reg8.ofCode, opX_opFields, opZ_opFields, opBits_opFields, hb]

theorem decodeXyCb_bit (z : BitVec 3) :
    decodeXyCb x d (opFields 1 b.toNat z.toNat) = x.pick (.bitAtIx b d z) (.bitAtIy b d z) := by
  have hb : b.toNat < 8 := b.isLt
  have hz : z.toNat < 8 := z.isLt
  simp [decodeXyCb, opX_opFields, opBits_opFields, lowBits_opFields, hb, hz]

end

/-- A row is decoded from its own bytes: with the codes of its operands put in, the tables answer it. -/
theorem decode4_of_encodeRow {i : Instr} {b0 b1 b2 b3 : Byte} (hw : i.rowWellFormed = true) (hl : i.isLonePrefix = false)
    (h : i.encodeRow = [b0, b1, b2, b3].take i.encodeRow.length) : decode4 b0 b1 b2 b3 = i := by
  cases i
  case loneDd | loneFd => cases hl
  case prefixCb | prefixDd | prefixEd | prefixFd | prefixDdCb | prefixFdCb | ignoredDd | ignoredFd => cases hw
  case ldAtNnHl | ldAtNnA | ldHlAtNn | ldAAtNn | jpNn | callNn
      | ldIxNn | ldAtNnIx | ldIxAtNn | ldIyNn | ldAtNnIy | ldIyAtNn =>
    cases h
    exact congrArg _ (join_hi_lo _)
  case ldDdNn q nn | ldDdAtNn q nn =>
    cases h
    cases q <;> exact congrArg _ (join_hi_lo nn)
  case ldAtNnDd nn q =>
    cases h
    cases q <;> exact congrArg (Instr.ldAtNnDd · _) (join_hi_lo nn)
  case jpCcNn q nn | callCcNn q nn =>
    cases h
    cases q <;> exact congrArg _ (join_hi_lo nn)
  case jrCc cc _ =>
    cases h
    cases cc
    case nz | z | nc | c => rfl
    all_goals cases hw
  case addHlSs q | incSs q | decSs q | sbcHlSs q | adcHlSs q | retCc q | popQq q | pushQq q | addIxPp q | addIyPp q
      | incR q | decR q | ldRN q _ | ldRAtHl q | ldAtHlR q | inR q | outR q
      | ldRAtIx q _ | ldAtIxR _ q | ldRAtIy q _ | ldAtIyR _ q
      | incIxHalf q | decIxHalf q | ldIxHalfN q _ | incIyHalf q | decIyHalf q | ldIyHalfN q _ =>
    cases h
    cases q <;> rfl
  case addR r | adcR r | subR r | sbcR r | andR r | xorR r | orR r | cpR r =>
    cases h
    exact decode4_aluR (by decide) r _ _ _
  case rlcR r | rrcR r | rlR r | rrR r | slaR r | sraR r | sllR r | srlR r =>
    cases h
    exact decode4_rotR (by decide) r _ _
  case rlcAtIxR _ r | rrcAtIxR _ r | rlAtIxR _ r | rrAtIxR _ r | slaAtIxR _ r | sraAtIxR _ r | sllAtIxR _ r | srlAtIxR _ r =>
    cases h
    exact decodeXyCb_rotR (by decide) r .ix _
  case rlcAtIyR _ r | rrcAtIyR _ r | rlAtIyR _ r | rrAtIyR _ r | slaAtIyR _ r | sraAtIyR _ r | sllAtIyR _ r | srlAtIyR _ r =>
    cases h
    exact decodeXyCb_rotR (by decide) r .iy _
  case addIxHalf half | adcIxHalf half | subIxHalf half | sbcIxHalf half | andIxHalf half | xorIxHalf half | orIxHalf half
      | cpIxHalf half =>
    cases h
    exact decodeXy_aluHalf .ix _ _ (by decide) half
  case addIyHalf half | adcIyHalf half | subIyHalf half | sbcIyHalf half | andIyHalf half | xorIyHalf half | orIyHalf half
      | cpIyHalf half =>
    cases h
    exact decodeXy_aluHalf .iy _ _ (by decide) half
  case ldRR r r2 =>
    cases h
    exact decode4_ldRR r r2 _ _ _
  case ldRRIx r r2 =>
    cases h
    exact decodeXy_ldRRXy .ix _ _ hw
  case ldRRIy r r2 =>
    cases h
    exact decodeXy_ldRRXy .iy _ _ hw
  case rst b | neg b =>
    cases h
    cases b using bits_cases <;> rfl
  case retn b =>
    cases h
    cases b using bits_cases
    case h1 => cases hw
    all_goals rfl
  case im0 b =>
    cases h
    cases b using bits_cases
    case h0 | h1 | h4 | h5 => rfl
    all_goals cases hw
  case im1 b =>
    cases h
    cases b using bits_cases
    case h2 | h6 => rfl
    all_goals cases hw
  case im2 b =>
    cases h
    cases b using bits_cases
    case h3 | h7 => rfl
    all_goals cases hw
  case nopEd0 op =>
    cases h
    show decodeEd _ _ _ = _
    simp [decodeEd, opX_opLow6, lowBits_opLow6]
  case nopEd2 op =>
    cases h
    have hdec : decodeEd (opLow6 2 op) b2 b3 = .nopEd2 ((opLow6 2 op).extractLsb' 0 6) := by
      rw [decodeEd, opX_opLow6 (by decide)]
      exact decodeEd2_of_not_block (not_block_of_opLow6 op hw)
    exact hdec.trans (congrArg _ (lowBits_opLow6 2 op))
  case nopEd3 op =>
    cases h
    show decodeEd _ _ _ = _
    simp [decodeEd, opX_opLow6, lowBits_opLow6]
  case nopEd7 y0 =>
    cases h
    cases y0 <;> rfl
  case bitR b r =>
    cases h
    exact decodeCb_bitR b r
  case resR b r =>
    cases h
    exact decodeCb_resR b r
  case setR b r =>
    cases h
    exact decodeCb_setR b r
  case resAtIxR b _ r =>
    cases h
    exact decodeXyCb_resR b r .ix _
  case resAtIyR b _ r =>
    cases h
    exact decodeXyCb_resR b r .iy _
  case setAtIxR b _ r =>
    cases h
    exact decodeXyCb_setR b r .ix _
  case setAtIyR b _ r =>
    cases h
    exact decodeXyCb_setR b r .iy _
  case bitAtIx b _ z =>
    cases h
    exact decodeXyCb_bit b .ix _ z
  case bitAtIy b _ z =>
    cases h
    exact decodeXyCb_bit b .iy _ z
  case bitAtHl b | resAtHl b | setAtHl b =>
    have hb : b.toNat < 8 := b.isLt
    cases h
    show decodeCb _ = _
    simp [decodeCb, opX_opFields, opZ_opFields, opBits_opFields, hb]
  case resAtIx b _ | setAtIx b _ | resAtIy b _ | setAtIy b _ =>
    have hb : b.toNat < 8 := b.isLt
    cases h
    show decodeXyCb _ _ _ = _
    simp [decodeXyCb, Idx.pick, opX_opFields, opZ_opFields, opBits_opFields, hb]
  all_goals
    cases h
    rfl

/-! Behind an ignored DD or FD (30_encoding R123, R125) -/

/-- The first byte of a row that a DD or FD leaves alone is no prefix byte (30_encoding R125). -/
theorem opcode_of_ignoresIndex {base : Instr} {op : Byte} {bs : List Byte} (hi : base.ignoresIndex = true)
    (h : base.encodeRow = op :: bs) : op ≠ 0xCB ∧ op ≠ 0xED ∧ op ≠ 0xDD ∧ op ≠ 0xFD := by
  cases base
  case incR r | decR r | ldRN r _ | addR r | adcR r | subR r | sbcR r | andR r | xorR r | orR r | cpR r
      | jrCc r _ | retCc r | jpCcNn r _ | callCcNn r _ | ldDdNn r _ | incSs r | decSs r | popQq r | pushQq r =>
    cases h
    cases r <;> decide
  case ldRR r r2 =>
    cases h
    cases r <;> cases r2 <;> decide
  case rst p =>
    cases h
    clear hi
    revert p
    decide
  case nop | exAfAf | djnz | jr | ldAtBcA | ldAtDeA | ldAtNnA | ldAAtBc | ldAAtDe | ldAAtNn | rlca | rrca | rla | rra | daa | cpl
      | scf | ccf | halt | addN | adcN | subN | sbcN | andN | xorN | orN | cpN | ret | exx | jpNn | outNA | inAN | exDeHl
      | di | ei | callNn =>
    cases h
    decide
  all_goals cases hi

/-- A DD or FD is ignored before the opcodes outside the set AFF, and before no other (30_encoding R123, R125). -/
theorem decodeXy_ignored_iff (x : Idx) {op : Byte} (h : op ≠ 0xED ∧ op ≠ 0xDD ∧ op ≠ 0xFD) (b2 b3 : Byte) :
    op ∉ affected ↔
      decodeXy x op b2 b3 = x.pick (.ignoredDd (decode4 op b2 b3 0)) (.ignoredFd (decode4 op b2 b3 0)) := by
  rw [← ignoresIndex_decodeBase_iff h b2 b3 0]
  constructor
  · intro hi
    have hcb : op ≠ 0xCB := by
      rintro rfl
      cases hi
    rw [decodeXy_of_isIgnored ((isIgnored_decodeXy x op b2 b3 hcb).trans hi), decode4_of_not_prefix ⟨hcb, h⟩, decodeIgnored]
  · intro he
    have hi : (decodeXy x op b2 b3).isIgnored = true := by rw [he]; cases x <;> rfl
    have hcb : op ≠ 0xCB := by
      rintro rfl
      cases (isIgnored_decodeXyCb x b2 b3).symm.trans hi
    exact (isIgnored_decodeXy x op b2 b3 hcb).symm.trans hi

theorem decodeXy_of_base {x : Idx} {base : Instr} {b1 b2 b3 : Byte} (hi : base.ignoresIndex = true)
    (hw : base.rowWellFormed = true) (h : base.encodeRow = [b1, b2, b3].take base.encodeRow.length) :
    decodeXy x b1 b2 b3 = x.pick (.ignoredDd base) (.ignoredFd base) := by
  have hlone : base.isLonePrefix = false := by
    cases base
    case loneDd | loneFd => cases hi
    all_goals rfl
  obtain ⟨hpos, hlen⟩ := Laws.EncodeLength.length_row_of_ignoresIndex base hi
  have hfirst : base.encodeRow = b1 :: [b2, b3].take (base.encodeRow.length - 1) := by
    obtain ⟨n, hn⟩ := Nat.exists_eq_add_of_le' hpos
    rw [hn] at h ⊢
    exact h
  have hbase : decode4 b1 b2 b3 0 = base :=
    decode4_of_encodeRow hw hlone (h.trans (List.take_append_of_le_length (l₁ := [b1, b2, b3]) (l₂ := [0]) hlen).symm)
  obtain ⟨hcb, hop⟩ := opcode_of_ignoresIndex hi hfirst
  have ha : b1 ∉ affected := by
    rw [← ignoresIndex_decodeBase_iff hop b2 b3 0, ← decode4_of_not_prefix ⟨hcb, hop⟩, hbase]
    exact hi
  rw [(decodeXy_ignored_iff x hop b2 b3).1 ha, hbase]

/-- A lone DD or FD is one before DD, ED or FD only (30_encoding R126). -/
theorem decodeXy_of_prefix (x : Idx) {op : Byte} (h : op = 0xDD ∨ op = 0xED ∨ op = 0xFD) (b2 b3 : Byte) :
    decodeXy x op b2 b3 = x.pick .loneDd .loneFd := by
  obtain rfl | rfl | rfl := h <;> rfl

/-- Every instruction is decoded from its own bytes. -/
theorem decode4_of_encode {i : Instr} {b0 b1 b2 b3 : Byte} (hw : i.wellFormed = true)
    (hl : i.isLonePrefix = true → b1 = 0xDD ∨ b1 = 0xED ∨ b1 = 0xFD) (h : i.encode = [b0, b1, b2, b3].take i.length) :
    decode4 b0 b1 b2 b3 = i := by
  have hrow : i.rowWellFormed = true → i.isLonePrefix = false →
      i.encodeRow = [b0, b1, b2, b3].take i.encodeRow.length → decode4 b0 b1 b2 b3 = i := decode4_of_encodeRow
  cases i
  case ignoredDd base | ignoredFd base =>
    obtain ⟨hi, hw⟩ := Bool.and_eq_true_iff.1 hw
    obtain ⟨rfl, hbase⟩ := List.cons_eq_cons.1 h
    exact decodeXy_of_base hi hw hbase
  case loneDd | loneFd =>
    cases h
    exact decodeXy_of_prefix _ (hl rfl) b2 b3
  all_goals exact hrow hw rfl h

end Sys2Proof
end

section
/-! PROOF. The family 30_encoding: decoder, encoder and disassembler. -/

namespace Sys2Proof.Machine

/-- The decoder reads four bytes, with zeros behind the end of the list; the first n of them are the list's own. -/
theorem take_getD_eq_take {n : Nat} (hn : n ≤ 4) (bs : List Byte) (h : n ≤ bs.length) :
    [bs.getD 0 0, bs.getD 1 0, bs.getD 2 0, bs.getD 3 0].take n = bs.take n := by
  match n, bs, hn, h with
  | 0, _, _, _ => rfl
  | 1, _ :: _, _, _ => rfl
  | 2, _ :: _ :: _, _, _ => rfl
  | 3, _ :: _ :: _ :: _, _, _ => rfl
  | 4, _ :: _ :: _ :: _ :: _, _, _ => rfl

/-- Settles O1: the four bytes the decoder looks at begin with the encoding. -/
theorem encodeThenDecode : Obligations.EncodeThenDecode := by
  intro i rest hw hl
  have hlen : i.length ≤ (i.encode ++ rest).length := by simp [Instr.length]
  have htake := take_getD_eq_take (Instr.length_le_four hw) (i.encode ++ rest) hlen
  have hprefix : (i.encode ++ rest).take i.length = i.encode := List.take_left
  have hread := decode4_of_encode hw ?lone (hprefix.symm.trans htake.symm)
  case lone =>
    intro hlone
    have hget : (i.encode ++ rest).getD 1 0 = rest.head?.getD 0 := by
      cases i
      case loneDd | loneFd => cases rest <;> rfl
      all_goals cases hlone
    obtain h | h | h := hl hlone <;> rw [hget, h] <;> decide
  have hdrop : (i.encode ++ rest).drop i.length = rest := List.drop_left
  simp only [decode, hread, hdrop, if_pos hlen]

/-- Settles O2: what is decoded is well-formed and encodes to the bytes it was read from. -/
theorem decodingIsTotal : Obligations.DecodingIsTotal := by
  intro b0 b1 b2 b3
  have hprefix := encode_decode4 b0 b1 b2 b3
  exact ⟨wellFormed_decode4 b0 b1 b2 b3, Instr.length_pos _, hprefix.length_le, List.prefix_iff_eq_take.1 hprefix⟩

/-- Settles O3, word by word. -/
theorem wordsDecode : Obligations.WordsDecode :=
  ⟨rfl, rfl, rfl, rfl, rfl, rfl, rfl, rfl, rfl, rfl, rfl, rfl, rfl, rfl, rfl, rfl, rfl, rfl⟩

theorem nodup_affected : affected.Nodup := by
  have hmap : (affected.map BitVec.toNat).Nodup := of_decide_eq_true rfl
  exact (List.pairwise_map.1 hmap).imp fun hne he => hne (congrArg BitVec.toNat he)

/-- Settles O4: the tables of DD and FD have a row of their own for the opcodes of the set AFF, and for no other but the prefix bytes. -/
theorem prefixedOpcodes : Obligations.PrefixedOpcodes := by
  refine ⟨rfl, nodup_affected, fun op b2 b3 => ⟨fun h => ?lone, fun h => ?other⟩⟩
  case lone => exact ⟨decodeXy_of_prefix .ix h b2 b3, decodeXy_of_prefix .iy h b2 b3⟩
  case other =>
    have hop : op ≠ 0xED ∧ op ≠ 0xDD ∧ op ≠ 0xFD :=
      ⟨fun e => h (.inr (.inl e)), fun e => h (.inl e), fun e => h (.inr (.inr e))⟩
    exact ⟨decodeXy_ignored_iff .ix hop b2 b3, decodeXy_ignored_iff .iy hop b2 b3⟩

theorem State.bytesAt_eq_take (s : State) (a : Word) {n : Nat} (h : n ≤ 4) :
    s.bytesAt a n = [s.read8 a, s.read8 (a + 1), s.read8 (a + 2), s.read8 (a + 3)].take n := by
  have h2 : a + 1 + 1 = a + 2 := by bv_omega
  have h3 : a + 2 + 1 = a + 3 := by bv_omega
  match n, h with
  | 0, _ | 1, _ | 2, _ | 3, _ | 4, _ => simp only [State.bytesAt, List.take_succ_cons, List.take_zero, h2, h3]

theorem State.length_bytesAt (s : State) (a : Word) (n : Nat) : (s.bytesAt a n).length = n := by
  induction n generalizing a with
  | zero => rfl
  | succ n ih => exact congrArg Nat.succ (ih (a + 1))

/-- Settles O5: the bytes of a line are those the decoder read, which are the encoding of what it answered. -/
theorem disassemblyNamesTheStep : Obligations.DisassemblyNamesTheStep := by
  intro s a n
  have hlen : (s.disasmLine a).bytes.length = (s.disasmLine a).length := s.length_bytesAt a _
  have hprefix := encode_decode4 (s.read8 a) (s.read8 (a + 1)) (s.read8 (a + 2)) (s.read8 (a + 3))
  have hbytes : (s.disasmLine a).bytes = (s.instrAt a).encode :=
    (s.bytesAt_eq_take a hprefix.length_le).trans (List.prefix_iff_eq_take.1 hprefix).symm
  exact ⟨rfl, hbytes, hlen.symm, rfl, rfl, by rw [hlen]; rfl⟩

end Sys2Proof.Machine
end

section
/-! SUPPORT. What an instruction leaves as it was: each register or part of the state is kept by every instruction outside the list of those
that write it (10_state R23 to R44; 20_memory R62). -/

namespace Sys2Proof

/-- The instructions that write the index register x (10_state R25). -/
def Instr.writesXy (x : Idx) : Instr → Bool
  | .ldIxNn _ => x == .ix
  | .ldIxAtNn _ => x == .ix
  | .addIxPp _ => x == .ix
  | .incIx => x == .ix
  | .decIx => x == .ix
  | .incIxHalf _ => x == .ix
  | .decIxHalf _ => x == .ix
  | .ldIxHalfN _ _ => x == .ix
  | .ldRRIx _ _ => x == .ix
  | .popIx => x == .ix
  | .exAtSpIx => x == .ix
  | .ldIyNn _ => x == .iy
  | .ldIyAtNn _ => x == .iy
  | .addIyPp _ => x == .iy
  | .incIy => x == .iy
  | .decIy => x == .iy
  | .incIyHalf _ => x == .iy
  | .decIyHalf _ => x == .iy
  | .ldIyHalfN _ _ => x == .iy
  | .ldRRIy _ _ => x == .iy
  | .popIy => x == .iy
  | .exAtSpIy => x == .iy
  | _ => false

/-- T-states i can take: at least 4 and, with one M1 cycle, at most 19, with two at most 23 (70_reset_and_hazards R500). -/
def Instr.Takes (i : Instr) (n : Nat) : Prop := 4 ≤ n ∧ n ≤ 15 + 4 * i.m1

end Sys2Proof

namespace Sys2Proof.Machine

/-- u is s past the instruction i, but for what i writes: the parts of the state that i keeps, PC and R counted by i's fetch alone, and
CYCLES not yet counted. -/
def State.Kept (i : Instr) (s u : State) : Prop :=
  (i.core.writesFlags = false → u.main.f = s.main.f) ∧
  (i.core.writesSp = false → u.sp = s.sp) ∧
  (i.core.usesIo = false → u.io = s.io) ∧
  (i.core.writesXy .ix = false → u.ix = s.ix) ∧
  (i.core.writesXy .iy = false → u.iy = s.iy) ∧
  (i.core.transfers = false → i.core.repeats = false → u.pc = s.pc + BitVec.ofNat 16 i.length) ∧
  (i.core ≠ .ldIA → u.i = s.i) ∧
  (i.core ≠ .ldRA → u.r = bumpR i.m1 s.r) ∧
  u.cycles = s.cycles ∧
  u.params = s.params ∧
  (s.params.logUndefined = false → s.params.logRomWrites = false → u.plane = s.plane)

/-! The fetch and the writers of one part -/

section
variable {i : Instr} {s u : State}

@[simp] theorem State.kept_fetch {l m : Nat} (hl : i.length = l) (hm : i.m1 = m) : State.Kept i s (s.fetch l m) := by
  subst hl hm
  simp [State.Kept]

theorem State.kept_setMain {k : Bank} (h : k.f = u.main.f) : State.Kept i s (u.setMain k) ↔ State.Kept i s u := by
  simp [State.Kept, h]

@[simp] theorem State.kept_setMain_of_writesFlags (h : i.core.writesFlags = true) (k : Bank) :
    State.Kept i s (u.setMain k) ↔ State.Kept i s u := by
  simp [State.Kept, h]

@[simp] theorem State.kept_setReg (r : Reg8) (v : Byte) : State.Kept i s (u.setReg r v) ↔ State.Kept i s u :=
  State.kept_setMain (by cases r <;> rfl)

@[simp] theorem State.kept_setA (v : Byte) : State.Kept i s (u.setA v) ↔ State.Kept i s u :=
  State.kept_setMain rfl

@[simp] theorem State.kept_setHl (w : Word) : State.Kept i s (u.setHl w) ↔ State.Kept i s u :=
  State.kept_setMain rfl

@[simp] theorem State.kept_setF (h : i.core.writesFlags = true) (f : Byte) : State.Kept i s (u.setF f) ↔ State.Kept i s u :=
  State.kept_setMain_of_writesFlags h _

@[simp] theorem State.kept_setAF (h : i.core.writesFlags = true) (a f : Byte) :
    State.Kept i s (u.setAF a f) ↔ State.Kept i s u :=
  State.kept_setMain_of_writesFlags h _

@[simp] theorem State.kept_alu (h : i.core.writesFlags = true) (op : AluOp) (v : Byte) :
    State.Kept i s (u.alu op v) ↔ State.Kept i s u :=
  State.kept_setAF h _ _

@[simp] theorem State.kept_setXy {x : Idx} (h : i.core.writesXy x = true) (w : Word) :
    State.Kept i s (u.setXy x w) ↔ State.Kept i s u := by
  cases x <;> simp [State.Kept, State.setXy, h]

@[simp] theorem State.kept_setHalf {x : Idx} (h : i.core.writesXy x = true) (half : Half) (v : Byte) :
    State.Kept i s (u.setHalf x half v) ↔ State.Kept i s u := by
  cases half <;> exact State.kept_setXy h _

@[simp] theorem State.kept_setRegX {x : Idx} (h : i.core.writesXy x = true) (r : RegX) (v : Byte) :
    State.Kept i s (u.setRegX x r v) ↔ State.Kept i s u := by
  cases r <;> simp [State.setRegX, h]

@[simp] theorem State.kept_setSp (h : i.core.writesSp = true) (w : Word) : State.Kept i s (u.setSp w) ↔ State.Kept i s u := by
  simp [State.Kept, h]

@[simp] theorem State.kept_popped (h : i.core.writesSp = true) : State.Kept i s u.popped ↔ State.Kept i s u :=
  State.kept_setSp h _

@[simp] theorem State.kept_setPair {p : Pair} (h : i.core.writesSp = (p == .sp)) (w : Word) :
    State.Kept i s (u.setPair p w) ↔ State.Kept i s u := by
  cases p
  case sp => exact State.kept_setSp h w
  all_goals exact State.kept_setMain rfl

@[simp] theorem State.kept_setPairQ {q : PairQ} (h : i.core.writesFlags = (q == .af)) (w : Word) :
    State.Kept i s (u.setPairQ q w) ↔ State.Kept i s u := by
  cases q
  case af => exact State.kept_setMain_of_writesFlags h _
  all_goals exact State.kept_setMain rfl

@[simp] theorem State.kept_setPc (h : i.core.transfers = true) (w : Word) : State.Kept i s (u.setPc w) ↔ State.Kept i s u := by
  simp [State.Kept, h]

theorem State.kept_setPc_of_repeats (h : i.core.repeats = true) (w : Word) :
    State.Kept i s (u.setPc w) ↔ State.Kept i s u := by
  simp [State.Kept, h]

@[simp] theorem State.kept_jumpRel (h : i.core.transfers = true) (e : Byte) :
    State.Kept i s (u.jumpRel e) ↔ State.Kept i s u :=
  State.kept_setPc h _

@[simp] theorem State.kept_setCtl (k : Ctl) : State.Kept i s (u.setCtl k) ↔ State.Kept i s u := Iff.rfl

@[simp] theorem State.kept_setAlt (k : Bank) : State.Kept i s (u.setAlt k) ↔ State.Kept i s u := Iff.rfl

@[simp] theorem State.kept_drawn : State.Kept i s u.drawn ↔ State.Kept i s u := Iff.rfl

@[simp] theorem State.kept_return (hsp : i.core.writesSp = true) (hpc : i.core.transfers = true) :
    State.Kept i s u.return ↔ State.Kept i s u :=
  (State.kept_setPc hpc _).trans (State.kept_popped hsp)

@[simp] theorem State.kept_returnFromHandler (hsp : i.core.writesSp = true) (hpc : i.core.transfers = true) :
    State.Kept i s u.returnFromHandler ↔ State.Kept i s u :=
  State.kept_return (u := u) hsp hpc

@[simp] theorem State.kept_setI (h : i.core = .ldIA) (v : Byte) : State.Kept i s (u.setI v) ↔ State.Kept i s u := by
  simp [State.Kept, h]

@[simp] theorem State.kept_setR (h : i.core = .ldRA) (v : Byte) : State.Kept i s (u.setR v) ↔ State.Kept i s u := by
  simp [State.Kept, h]

@[simp] theorem State.kept_setIo (h : i.core.usesIo = true) (io : Io) : State.Kept i s (u.setIo io) ↔ State.Kept i s u := by
  simp [State.Kept, h]

@[simp] theorem State.kept_ioReadDone (h : i.core.usesIo = true) (port : Word) :
    State.Kept i s (u.ioReadDone port) ↔ State.Kept i s u := by
  simp [State.ioReadDone, h]

@[simp] theorem State.kept_ioWrite (h : i.core.usesIo = true) (port : Word) (v : Byte) :
    State.Kept i s (u.ioWrite port v) ↔ State.Kept i s u :=
  State.kept_setIo h _

@[simp] theorem State.kept_copied (c : Option Reg8) (v : Byte) : State.Kept i s (u.copied c v) ↔ State.Kept i s u := by
  cases c
  · exact Iff.rfl
  · exact State.kept_setReg _ _

end

/-! Messages and memory: without a message switched on the registry stays (60_exceptions R442) -/

section
variable {i : Instr} {s u : State}

theorem State.Kept.setStore (h : State.Kept i s u) (st : Store) : State.Kept i s (u.setStore st) := h

theorem State.Kept.emitIf (h : State.Kept i s u) {on : Bool}
    (hon : s.params.logUndefined = false → s.params.logRomWrites = false → on = false) (ev : MsgEvent) :
    State.Kept i s (u.emitIf on ev) := by
  obtain ⟨hf, hsp, hio, hix, hiy, hpc, hi, hr, hcycles, hparams, hplane⟩ := h
  cases on with
  | false => exact ⟨hf, hsp, hio, hix, hiy, hpc, hi, hr, hcycles, hparams, hplane⟩
  | true => exact ⟨hf, hsp, hio, hix, hiy, hpc, hi, hr, hcycles, hparams, fun hu hw => nomatch hon hu hw⟩

theorem State.Kept.wrote (h : State.Kept i s u) (a : Word) (v : Byte) : State.Kept i s (u.wrote a v) := by
  have hparams : u.params = s.params := by
    obtain ⟨_, _, _, _, _, _, _, _, _, hparams, _⟩ := h
    exact hparams
  refine State.Kept.emitIf (h.setStore _) (fun _ hw => ?_) _
  rw [hparams, hw, Bool.false_and]

end

/-! Results -/

/-- Where x answers a next state, i keeps in it what it keeps. -/
def Leaves (i : Instr) (s : State) (x : Result) : Prop := ∀ u, x = .next u → State.Kept i s u

/-- Where x answers a next state, i has kept what it keeps and taken its T-states. -/
def Completes (i : Instr) (s : State) (x : Result) : Prop :=
  ∀ t, x = .next t → ∃ u n, State.Kept i s u ∧ i.Takes n ∧ t = u.spend n

section
variable {i : Instr} {s u : State}

theorem completes_done {n : Nat} (hu : State.Kept i s u := by simp (disch := with_unfolding_all exact id rfl))
    (hn : i.Takes n := by exact ⟨Nat.le_of_ble_eq_true rfl, Nat.le_of_ble_eq_true rfl⟩) : Completes i s (done n u) := by
  intro t h
  obtain rfl := done_eq_next.1 h
  exact ⟨u, n, hu, hn, rfl⟩

theorem completes_ite {c : Prop} [Decidable c] {x y : Result} (hx : Completes i s x) (hy : Completes i s y) :
    Completes i s (if c then x else y) := by
  split
  · exact hx
  · exact hy

theorem Leaves.andThen {x : Result} {f : State → Result} (hx : Leaves i s x) (hf : ∀ u, State.Kept i s u → Completes i s (f u)) :
    Completes i s (andThen x f) := by
  intro t h
  obtain ⟨u, hu, ht⟩ := andThen_eq_next.1 h
  exact hf u (hx u hu) t ht

theorem Leaves.finish {x : Result} (hx : Leaves i s x) {n : Nat}
    (hn : i.Takes n := by exact ⟨Nat.le_of_ble_eq_true rfl, Nat.le_of_ble_eq_true rfl⟩) : Completes i s (finish n x) :=
  hx.andThen fun _ hu => completes_done hu hn

theorem State.leaves_write8 {a : Word} {v : Byte} (hu : State.Kept i s u := by simp (disch := with_unfolding_all exact id rfl)) :
    Leaves i s (u.write8 a v) := by
  intro t h
  obtain ⟨-, rfl⟩ := State.write8_eq_next.1 h
  exact hu.wrote a v

theorem State.leaves_write16 {a v : Word} (hu : State.Kept i s u := by simp (disch := with_unfolding_all exact id rfl)) :
    Leaves i s (u.write16 a v) := by
  intro t h
  obtain ⟨-, rfl⟩ := State.write16_eq_next.1 h
  exact (hu.wrote a _).wrote (a + 1) _

theorem State.leaves_push16 {v : Word} (hsp : i.core.writesSp = true := by exact rfl)
    (hu : State.Kept i s u := by simp (disch := with_unfolding_all exact id rfl)) : Leaves i s (u.push16 v) := by
  intro t h
  obtain ⟨-, rfl⟩ := State.push16_eq_next.1 h
  exact (State.kept_setSp hsp _).2 ((hu.wrote _ _).wrote _ _)

theorem State.leaves_writeBack {a : Word} {c : Option Reg8} {v : Byte}
    (hu : State.Kept i s u := by simp (disch := with_unfolding_all exact id rfl)) : Leaves i s (u.writeBack a c v) := by
  intro t h
  obtain ⟨-, rfl⟩ := State.writeBack_eq_next.1 h
  exact (State.kept_copied c v).2 (hu.wrote a v)

/-! The operations that several meanings share -/

theorem State.completes_incAt {a : Word} {n : Nat} (hf : i.core.writesFlags = true := by exact rfl)
    (hn : i.Takes n := by exact ⟨Nat.le_of_ble_eq_true rfl, Nat.le_of_ble_eq_true rfl⟩)
    (hu : State.Kept i s u := by simp (disch := with_unfolding_all exact id rfl)) : Completes i s (u.incAt a n) :=
  (State.leaves_write8 hu).andThen fun _ h => completes_done ((State.kept_setF hf _).2 h) hn

theorem State.completes_decAt {a : Word} {n : Nat} (hf : i.core.writesFlags = true := by exact rfl)
    (hn : i.Takes n := by exact ⟨Nat.le_of_ble_eq_true rfl, Nat.le_of_ble_eq_true rfl⟩)
    (hu : State.Kept i s u := by simp (disch := with_unfolding_all exact id rfl)) : Completes i s (u.decAt a n) :=
  (State.leaves_write8 hu).andThen fun _ h => completes_done ((State.kept_setF hf _).2 h) hn

theorem State.completes_rotAt {op : RotOp} {a : Word} {c : Option Reg8} {n : Nat} (hf : i.core.writesFlags = true := by exact rfl)
    (hn : i.Takes n := by exact ⟨Nat.le_of_ble_eq_true rfl, Nat.le_of_ble_eq_true rfl⟩)
    (hu : State.Kept i s u := by simp (disch := with_unfolding_all exact id rfl)) : Completes i s (u.rotAt op a c n) :=
  (State.leaves_writeBack hu).andThen fun _ h => completes_done ((State.kept_setF hf _).2 h) hn

theorem State.completes_modifyAt {f : Byte → Byte} {a : Word} {c : Option Reg8} {n : Nat}
    (hn : i.Takes n := by exact ⟨Nat.le_of_ble_eq_true rfl, Nat.le_of_ble_eq_true rfl⟩)
    (hu : State.Kept i s u := by simp (disch := with_unfolding_all exact id rfl)) : Completes i s (u.modifyAt f a c n) :=
  (State.leaves_writeBack hu).finish hn

theorem State.completes_call {target : Word} {n : Nat} (hsp : i.core.writesSp = true := by exact rfl)
    (hpc : i.core.transfers = true := by exact rfl)
    (hn : i.Takes n := by exact ⟨Nat.le_of_ble_eq_true rfl, Nat.le_of_ble_eq_true rfl⟩)
    (hu : State.Kept i s u := by simp (disch := with_unfolding_all exact id rfl)) : Completes i s (u.call target n) :=
  (State.leaves_push16 hsp hu).andThen fun _ h => completes_done ((State.kept_setPc hpc _).2 h) hn

end

/-- The iteration of a block instruction ends (42_block R214). -/
theorem completes_endIteration {i : Instr} {s u : State} (hu : State.Kept i s u) (hf : i.core.writesFlags = true)
    (hrep : i.core.repeats = true) (hm : i.m1 = 2) (again : Bool) (mask : Byte) : Completes i s (endIteration again mask u) := by
  have htakes {n : Nat} (hlo : 4 ≤ n) (hhi : n ≤ 23) : i.Takes n := ⟨hlo, by rwa [hm]⟩
  refine completes_ite (completes_done ?_ (htakes (by decide) (by decide))) (completes_done hu (htakes (by decide) (by decide)))
  exact State.kept_drawn.2 ((State.kept_setF hf _).2 ((State.kept_setPc_of_repeats hrep _).2 hu))

theorem leaves_ldBlock {i : Instr} {inc : Word} {s : State} (hf : i.core.writesFlags = true)
    (hu : State.Kept i s (s.fetch 2 2)) : Leaves i s (ldBlock inc s) := by
  intro t h
  obtain ⟨u, hw, ht⟩ := andThen_eq_next.1 h
  cases ht
  exact (State.kept_setMain_of_writesFlags hf _).2 (State.leaves_write8 hu u hw)

theorem kept_cpBlock {i : Instr} {inc : Word} {s : State} (hf : i.core.writesFlags = true)
    (hu : State.Kept i s (s.fetch 2 2)) : State.Kept i s (cpBlock inc s) :=
  (State.kept_setMain_of_writesFlags hf _).2 hu

theorem kept_outBlock {i : Instr} {inc : Word} {s : State} (hf : i.core.writesFlags = true) (hio : i.core.usesIo = true)
    (hu : State.Kept i s (s.fetch 2 2)) : State.Kept i s (outBlock inc s) :=
  (State.kept_setMain_of_writesFlags hf _).2 ((State.kept_ioWrite hio _ _).2 hu)

theorem leaves_inBlock {i : Instr} {inc : Word} {s : State} (hf : i.core.writesFlags = true) (hio : i.core.usesIo = true)
    (hu : State.Kept i s (s.fetch 2 2)) : Leaves i s (inBlock inc s) := by
  intro t h
  obtain ⟨u, hw, ht⟩ := andThen_eq_next.1 h
  cases ht
  exact (State.kept_setMain_of_writesFlags hf _).2 (State.leaves_write8 ((State.kept_ioReadDone hio _).2 hu) u hw)

/-! Instructions -/

/-- Every row, by what it reaches: first the rows that write memory, repeat, emit a message or choose; the rest complete at once. Where the
opcode byte holds an operand, m1 is read off once the operand is known. -/
theorem completes_runRow (i : Instr) (s : State) (hw : i.rowWellFormed = true) : Completes i s (runRow i s) := by
  cases i
  case ldAtBcA | ldAtDeA | ldAtNnA | ldAtHlR | ldAtHlN | ldAtIxR | ldAtIxN | ldAtIyR | ldAtIyN =>
    exact Leaves.finish State.leaves_write8
  case ldAtNnHl | ldAtNnDd | ldAtNnIx | ldAtNnIy => exact Leaves.finish State.leaves_write16
  case pushQq | pushIx | pushIy => exact Leaves.finish State.leaves_push16
  case exAtSpHl =>
    exact Leaves.andThen State.leaves_write16 fun _ hu => completes_done ((State.kept_setHl _).2 hu)
  case exAtSpIx | exAtSpIy =>
    exact Leaves.andThen State.leaves_write16 fun _ hu => completes_done ((State.kept_setXy rfl _).2 hu)
  case incAtHl | incAtIx | incAtIy => exact State.completes_incAt
  case decAtHl | decAtIx | decAtIy => exact State.completes_decAt
  case rlcAtHl | rrcAtHl | rlAtHl | rrAtHl | slaAtHl | sraAtHl | sllAtHl | srlAtHl
      | rlcAtIx | rrcAtIx | rlAtIx | rrAtIx | slaAtIx | sraAtIx | sllAtIx | srlAtIx
      | rlcAtIxR | rrcAtIxR | rlAtIxR | rrAtIxR | slaAtIxR | sraAtIxR | sllAtIxR | srlAtIxR
      | rlcAtIy | rrcAtIy | rlAtIy | rrAtIy | slaAtIy | sraAtIy | sllAtIy | srlAtIy
      | rlcAtIyR | rrcAtIyR | rlAtIyR | rrAtIyR | slaAtIyR | sraAtIyR | sllAtIyR | srlAtIyR =>
    exact State.completes_rotAt
  case resAtHl | setAtHl | resAtIx | setAtIx | resAtIxR | setAtIxR | resAtIy | setAtIy | resAtIyR | setAtIyR =>
    unfold runRow -- the byte function of `modifyAt` must stand syntactically in the goal to be unified
    exact State.completes_modifyAt
  case rld | rrd =>
    exact Leaves.andThen State.leaves_write8 fun _ hu => completes_done ((State.kept_setAF rfl _ _).2 hu)
  case callNn | rst => exact State.completes_call
  case callCcNn cc _ => cases cc <;> exact completes_ite State.completes_call completes_done
  case ldi | ldd => exact (leaves_ldBlock rfl (State.kept_fetch rfl rfl)).finish
  case ini | ind => exact (leaves_inBlock rfl rfl (State.kept_fetch rfl rfl)).finish
  case ldir | lddr =>
    exact (leaves_ldBlock rfl (State.kept_fetch rfl rfl)).andThen fun _ hu => completes_endIteration hu rfl rfl rfl _ _
  case inir | indr =>
    exact (leaves_inBlock rfl rfl (State.kept_fetch rfl rfl)).andThen fun _ hu => completes_endIteration hu rfl rfl rfl _ _
  case cpir | cpdr => exact completes_endIteration (kept_cpBlock rfl (State.kept_fetch rfl rfl)) rfl rfl rfl _ _
  case otir | otdr => exact completes_endIteration (kept_outBlock rfl rfl (State.kept_fetch rfl rfl)) rfl rfl rfl _ _
  case cpi | cpd => exact completes_done (kept_cpBlock rfl (State.kept_fetch rfl rfl))
  case outi | outd => exact completes_done (kept_outBlock rfl rfl (State.kept_fetch rfl rfl))
  case nopEd0 | nopEd2 | nopEd3 | nopEd7 =>
    exact completes_done ((State.kept_fetch rfl rfl).emitIf (fun hu _ => hu) _)
  case loneDd | loneFd =>
    exact completes_done (((State.kept_setCtl _).2 (State.kept_fetch rfl rfl)).emitIf (fun hu _ => hu) _)
  case prefixCb | prefixDd | prefixEd | prefixFd | prefixDdCb | prefixFdCb | ignoredDd | ignoredFd => cases hw
  case jrCc cc _ | jpCcNn cc _ => cases cc <;> exact completes_ite completes_done completes_done
  case retCc | djnz => exact completes_ite completes_done completes_done
  case exDeHl => exact completes_done ((State.kept_setMain rfl).2 (State.kept_fetch rfl rfl))
  case exx => exact completes_done ((State.kept_setAlt _).2 ((State.kept_setMain rfl).2 (State.kept_fetch rfl rfl)))
  case ldRN r _ => cases r <;> exact completes_done
  case ldDdNn dd _ => cases dd <;> exact completes_done
  all_goals exact completes_done

/-! An ignored DD or FD: the base instruction one byte and one M1 cycle later (30_encoding R125; 48_cpu_control R379) -/

theorem encode_of_ignoresIndex {base : Instr} (h : base.ignoresIndex = true) : base.encode = base.encodeRow := by
  cases base
  case ignoredDd | ignoredFd => cases h
  all_goals rfl

theorem m1_of_ignoresIndex {base : Instr} (h : base.ignoresIndex = true) : base.m1 = 1 := by
  unfold Instr.m1
  rw [encode_of_ignoresIndex h]
  rcases hrow : base.encodeRow with _ | ⟨op, _ | ⟨b, bs⟩⟩
  · rfl
  · rfl
  · obtain ⟨hcb, hed, hdd, hfd⟩ := opcode_of_ignoresIndex h hrow
    show (if (op == 0xCB || op == 0xDD || op == 0xED || op == 0xFD) = true then 2 else 1) = 1
    rw [beq_false_of_ne hcb, beq_false_of_ne hdd, beq_false_of_ne hed, beq_false_of_ne hfd]
    rfl

theorem core_of_ignoresIndex {base : Instr} (h : base.ignoresIndex = true) : base.core = base := by
  cases base
  case ignoredDd | ignoredFd => cases h
  all_goals rfl

theorem State.Kept.of_fetch {i base : Instr} {s u : State} (hcore : i.core = base.core) (hlen : i.length = base.length + 1)
    (hm : i.m1 = base.m1 + 1) (h : State.Kept base (s.fetch 1 1) u) : State.Kept i s u := by
  have hpc : s.pc + BitVec.ofNat 16 1 + BitVec.ofNat 16 base.length = s.pc + BitVec.ofNat 16 i.length := by
    rw [hlen]
    bv_omega
  unfold State.Kept at h ⊢
  rw [hcore, hm]
  simp only [State.pc_fetch, State.r_fetch, hpc, bumpR_bumpR] at h
  exact h

theorem State.spend_emitIf (s : State) (on : Bool) (ev : MsgEvent) (m n : Nat) :
    ((s.spend m).emitIf on ev).spend n = (s.emitIf on ev).spend (m + n) := by
  cases on
  · exact congrArg s.setCycles (Nat.add_assoc s.cycles m n)
  · exact congrArg (s.emit ev).setCycles (Nat.add_assoc s.cycles m n)

/-- A prefix byte and what stands behind it: one byte and one M1 cycle more. -/
theorem length_m1_of_ignored {i base : Instr} {b : Byte} (hi : base.ignoresIndex = true) (hb : b = 0xDD ∨ b = 0xFD)
    (h : i.encode = b :: base.encodeRow) : i.length = base.length + 1 ∧ i.m1 = 2 := by
  obtain ⟨hpos, -⟩ := Laws.EncodeLength.length_row_of_ignoresIndex base hi
  obtain ⟨op, bs, hrow⟩ := List.exists_cons_of_length_pos hpos
  unfold Instr.length Instr.m1
  rw [h, encode_of_ignoresIndex hi, hrow]
  obtain rfl | rfl := hb <;> exact ⟨rfl, rfl⟩

theorem completes_ignoredPrefix {i base : Instr} {b : Byte} (hi : base.ignoresIndex = true) (hw : base.rowWellFormed = true)
    (hb : b = 0xDD ∨ b = 0xFD) (henc : i.encode = b :: base.encodeRow) (hcore : i.core = base) (s : State) :
    Completes i s (ignoredPrefix b base s) := by
  intro t h
  rw [ignoredPrefix, if_pos hi] at h
  obtain ⟨v, hv, ht⟩ := andThen_eq_next.1 h
  obtain ⟨u, n, hu, ⟨hlo, hhi⟩, rfl⟩ := completes_runRow base (s.fetch 1 1) hw v hv
  have hm1 : base.m1 = 1 := m1_of_ignoresIndex hi
  obtain ⟨hlen, hm⟩ := length_m1_of_ignored hi hb henc
  have hkept : State.Kept i s u := hu.of_fetch (hcore.trans (core_of_ignoresIndex hi).symm) hlen (by rw [hm, hm1])
  refine ⟨_, n + 4, hkept.emitIf (fun hlog _ => hlog) (.undefinedOpcode s.pc [b, base.opcode]), ⟨Nat.le_add_left 4 n, ?_⟩, ?_⟩
  · omega
  · exact (done_eq_next.1 ht).symm.trans (State.spend_emitIf ..)

/-- Every instruction keeps what it keeps and takes its T-states. -/
theorem completes_exec (i : Instr) (s : State) (h : i.wellFormed = true) : Completes i s (exec i s) := by
  have hrow : i.rowWellFormed = true → Completes i s (runRow i s) := completes_runRow i s
  cases i
  case ignoredDd base =>
    obtain ⟨hi, hw⟩ := Bool.and_eq_true_iff.1 h
    exact completes_ignoredPrefix hi hw (.inl rfl) rfl rfl s
  case ignoredFd base =>
    obtain ⟨hi, hw⟩ := Bool.and_eq_true_iff.1 h
    exact completes_ignoredPrefix hi hw (.inr rfl) rfl rfl s
  case prefixCb | prefixDd | prefixEd | prefixFd | prefixDdCb | prefixFdCb => cases h
  all_goals exact hrow h

end Sys2Proof.Machine
end

section
/-! PROOF. The frames of 10_state: who writes the special registers, the index registers, R, PC and F. -/

namespace Sys2Proof

/-- An index register is written behind its prefix byte only (30_encoding R121). -/
theorem Instr.head_of_writesXy {x : Idx} {i : Instr} (h : i.writesXy x = true) : i.encodeRow.head? = some x.prefixByte := by
  cases i
  case ldIxNn | ldIxAtNn | addIxPp | incIx | decIx | incIxHalf | decIxHalf | ldIxHalfN | ldRRIx | popIx | exAtSpIx =>
    cases x
    · rfl
    · cases h
  case ldIyNn | ldIyAtNn | addIyPp | incIy | decIy | incIyHalf | decIyHalf | ldIyHalfN | ldRRIy | popIy | exAtSpIy =>
    cases x
    · cases h
    · rfl
  all_goals cases h

end Sys2Proof

namespace Sys2Proof.Machine

/-- No base-table row that a DD or FD leaves alone writes an index register (30_encoding R125). -/
theorem writesXy_of_ignoresIndex {base : Instr} (h : base.ignoresIndex = true) (x : Idx) : base.writesXy x = false := by
  refine Bool.eq_false_iff.2 fun hx => ?_
  obtain ⟨op, bs, hrow⟩ : ∃ op bs, base.encodeRow = op :: bs :=
    List.exists_cons_of_length_pos (Laws.EncodeLength.length_row_of_ignoresIndex base h).1
  obtain ⟨-, -, hdd, hfd⟩ := opcode_of_ignoresIndex h hrow
  have hop : op = x.prefixByte := Option.some.inj ((congrArg List.head? hrow).symm.trans (Instr.head_of_writesXy hx))
  cases x
  · exact hdd hop
  · exact hfd hop

theorem writesXy_core {x : Idx} {i : Instr} (hw : i.wellFormed = true) (h : i.encode.head? ≠ some x.prefixByte) :
    i.core.writesXy x = false := by
  have hrow : i.encodeRow.head? ≠ some x.prefixByte → i.writesXy x = false :=
    fun hne => Bool.eq_false_iff.2 fun hx => hne (Instr.head_of_writesXy hx)
  cases i
  case ignoredDd base | ignoredFd base =>
    obtain ⟨hi, -⟩ := Bool.and_eq_true_iff.1 hw
    exact writesXy_of_ignoresIndex hi x
  all_goals exact hrow h

/-- Settles O16: only the rows of an index register's own table write it. -/
theorem indexRegistersNeedTheirPrefix : Obligations.IndexRegistersNeedTheirPrefix := by
  intro i s t hw h
  obtain ⟨u, n, ⟨-, -, -, hix, hiy, -⟩, -, rfl⟩ := completes_exec i s hw t h
  exact ⟨fun hdd => hix (writesXy_core (x := .ix) hw hdd), fun hfd => hiy (writesXy_core (x := .iy) hw hfd)⟩

/-- Settles O19: F is kept outside the list. -/
theorem flagFrame : Obligations.FlagFrame := by
  intro i s t hw h hf
  obtain ⟨u, n, ⟨hkept, -⟩, -, rfl⟩ := completes_exec i s hw t h
  exact hkept hf

/-- Settles O17: R is counted by the fetch alone. -/
theorem refreshRegisterCounts : Obligations.RefreshRegisterCounts := by
  intro i s t hw h hi
  obtain ⟨u, n, ⟨-, -, -, -, -, -, -, hr, -⟩, -, rfl⟩ := completes_exec i s hw t h
  have hbump : (u.spend n).r = bumpR i.m1 s.r := hr hi
  rw [hbump]
  exact ⟨toNat_bumpR_mod i.m1 s.r, getLsbD_bumpR i.m1 s.r⟩

/-! The interrupt and halt bits -/

theorem Instr.ctlAfter_writers (i : Instr) (k : Ctl) :
    ((i.ctlAfter k).im ≠ k.im → ∃ y, i = .im0 y ∨ i = .im1 y ∨ i = .im2 y) ∧
      ((i.ctlAfter k).iff1 ≠ k.iff1 ∨ (i.ctlAfter k).iff2 ≠ k.iff2 → i = .di ∨ i = .ei ∨ i = .reti ∨ ∃ y, i = .retn y) ∧
      ((i.ctlAfter k).halted ≠ k.halted → i = .halt) ∧
      ((i.ctlAfter k).eiDefer ≠ k.eiDefer → i = .ei) ∧
      ((i.ctlAfter k).prefixDefer ≠ k.prefixDefer → i.isLonePrefix = true) ∧
      (i.ctlAfter k).nmiPending = k.nmiPending ∧ (i.ctlAfter k).intPending = k.intPending := by
  unfold Instr.ctlAfter
  split <;> simp [Instr.isLonePrefix]

theorem ctl_of_exec {i : Instr} {s t : State} (hw : i.wellFormed = true) (h : exec i s = .next t) :
    t.ctl = i.core.ctlAfter s.ctl := by
  obtain ⟨u, hu, hk⟩ | ⟨hr, -⟩ := answers_exec i s hw
  · cases hu.symm.trans h
    exact hk
  · cases hr.symm.trans h

theorem State.Effect.refused {s t : State} (h : s.Effect t) : t.refused = s.refused := by
  induction h with
  | refl => rfl
  | regs _ hr ih =>
    obtain ⟨_, _, _, hrefused⟩ := hr
    exact hrefused.trans ih
  | write _ _ _ _ ih => exact ih
  | emit _ _ ih => exact ih

/-- Settles O15: each register is kept outside its list, and the interrupt bits are those of the instruction's row. -/
theorem specialRegisterWriters : Obligations.SpecialRegisterWriters := by
  intro i s t hw h
  have heffect : s.Effect t := effects_exec i s t h
  obtain ⟨msgs, hit, hplane⟩ := heffect.messagesOnly
  obtain ⟨him, hiff, hhalted, hei, hprefix, hnmi, hint⟩ := Instr.ctlAfter_writers i.core s.ctl
  rw [Instr.isLonePrefix_core hw] at hprefix
  rw [← ctl_of_exec hw h] at him hiff hhalted hei hprefix hnmi hint
  obtain ⟨u, n, ⟨-, hsp, hio, -, -, -, hi, -, -, -, hquiet⟩, -, rfl⟩ := completes_exec i s hw t h
  exact ⟨fun hne => Classical.byContradiction fun hn => hne (hi hn), him, hiff, hhalted, hei, hprefix,
    fun hne => Classical.byContradiction fun hn => hne (hsp (Bool.eq_false_iff.2 hn)),
    fun hne => Classical.byContradiction fun hn => hne (hio (Bool.eq_false_iff.2 hn)),
    hnmi, hint, heffect.refused, by rw [hplane], hquiet⟩

/-! PC -/

theorem pc_endIteration {again : Bool} {mask : Byte} {u t : State} (h : endIteration again mask u = .next t) :
    t.pc = u.pc ∨ t.pc = u.pc - 2 := by
  cases again with
  | true =>
    cases h
    exact .inr rfl
  | false =>
    cases h
    exact .inl rfl

theorem pc_ldBlock {inc : Word} {s u : State} (h : ldBlock inc s = .next u) : u.pc = s.pc + 2 := by
  obtain ⟨v, hv, hu⟩ := andThen_eq_next.1 h
  obtain ⟨-, rfl⟩ := State.write8_eq_next.1 hv
  cases hu
  exact State.pc_wrote _ _ _

theorem pc_inBlock {inc : Word} {s u : State} (h : inBlock inc s = .next u) : u.pc = s.pc + 2 := by
  obtain ⟨v, hv, hu⟩ := andThen_eq_next.1 h
  obtain ⟨-, rfl⟩ := State.write8_eq_next.1 hv
  cases hu
  exact State.pc_wrote _ _ _

/-- The iteration of a repeating instruction ends past it or at its first byte (42_block R214). -/
theorem pc_of_endIteration {again : Bool} {mask : Byte} {s u t : State} (hu : u.pc = s.pc + 2)
    (h : endIteration again mask u = .next t) : t.pc = s.pc + 2 ∨ t.pc = s.pc := by
  obtain ht | ht := pc_endIteration h
  · exact .inl (ht.trans hu)
  · exact .inr (by rw [ht, hu]; bv_omega)

theorem repeats_of_ignoresIndex {base : Instr} (h : base.ignoresIndex = true) : base.repeats = false := by
  cases base
  case ldir | lddr | inir | indr | cpir | cpdr | otir | otdr => cases h
  all_goals rfl

theorem pc_of_repeats {i : Instr} {s t : State} (hi : i.core.repeats = true) (hw : i.wellFormed = true)
    (h : exec i s = .next t) : t.pc = s.pc + 2 ∨ t.pc = s.pc := by
  cases i
  case ldir | lddr =>
    obtain ⟨u, hu, ht⟩ := andThen_eq_next.1 h
    exact pc_of_endIteration (pc_ldBlock hu) ht
  case inir | indr =>
    obtain ⟨u, hu, ht⟩ := andThen_eq_next.1 h
    exact pc_of_endIteration (pc_inBlock hu) ht
  case cpir | cpdr | otir | otdr => exact pc_of_endIteration (s := s) rfl h
  case ignoredDd base | ignoredFd base =>
    obtain ⟨hbase, -⟩ := Bool.and_eq_true_iff.1 hw
    cases (repeats_of_ignoresIndex hbase).symm.trans hi
  all_goals cases hi

/-- Settles O18: PC is the fetch's, but for the rows that transfer control and the eight that repeat. -/
theorem pcAdvances : Obligations.PcAdvances := by
  intro i s t hw h
  obtain ⟨u, n, ⟨-, -, -, -, -, hpc, -⟩, -, rfl⟩ := completes_exec i s hw t h
  exact ⟨hpc, fun hrep => pc_of_repeats hrep hw h⟩

end Sys2Proof.Machine
end

section
/-! PROOF. The family 70_reset_and_hazards: what a step costs. -/

namespace Sys2Proof.Machine

/-- From CYCLES c to CYCLES d, 4 to 23 T-states (70_reset_and_hazards R500). -/
def Spends (c d : Nat) : Prop := c + 4 ≤ d ∧ d ≤ c + 23

/-- Where x answers a next state, it took 4 to 23 T-states. -/
def Costs (s : State) (x : Result) : Prop := ∀ t, x = .next t → Spends s.cycles t.cycles

theorem Instr.m1_le_two (i : Instr) : i.m1 ≤ 2 := by
  unfold Instr.m1
  split
  · split <;> decide
  · decide

theorem costs_exec (i : Instr) (s : State) (h : i.wellFormed = true) : Costs s (exec i s) := by
  intro t ht
  obtain ⟨u, n, ⟨_, _, _, _, _, _, _, _, hcycles, _⟩, ⟨hlo, hhi⟩, rfl⟩ := completes_exec i s h t ht
  have hm : i.m1 ≤ 2 := Instr.m1_le_two i
  rw [State.cycles_spend, hcycles]
  exact ⟨by omega, by omega⟩

theorem State.costs_enterHandler {s : State} {k : Ctl} {vector : State → Word} {n : Nat} (hlo : 4 ≤ n := by decide)
    (hhi : n ≤ 23 := by decide) : Costs s (s.enterHandler k vector n) := by
  intro t h
  rw [State.enterHandler_eq] at h
  split at h
  · cases h
  · cases h
    simp only [Spends, State.cycles_spend, State.cycles_setPc, State.cycles_pushed, State.cycles_setR, State.cycles_setCtl]
    exact ⟨by omega, by omega⟩

theorem State.costs_acceptInt (s : State) : Costs s s.acceptInt := by
  unfold State.acceptInt
  split
  · split
    · exact State.costs_enterHandler
    · exact fun _ h => nomatch h
  · exact State.costs_enterHandler
  · exact State.costs_enterHandler

theorem State.costs_act (s : State) (k : StepKind) : Costs s (s.act k) := by
  cases k with
  | nmiAccept => exact State.costs_enterHandler
  | intAccept => exact s.costs_acceptInt
  | idle =>
    intro t h
    obtain rfl := done_eq_next.1 h
    exact ⟨Nat.le_refl _, Nat.add_le_add_left (by decide) _⟩
  | instr => exact costs_exec _ s s.wellFormed_nextInstr

/-- An engine step costs 4 to 23 T-states, or none where the core is or becomes REFUSED (60_exceptions R402, R420). -/
theorem State.cost_engineStep {s t : State} (h : s.engineStep = .next t) :
    Spends s.cycles t.cycles ∨ (t.cycles = s.cycles ∧ t.refused = true) := by
  obtain ⟨hr, rfl⟩ | ⟨_, hact⟩ | ⟨_, _, _, _, rfl⟩ := State.engineStep_eq_next.1 h
  · exact .inr ⟨rfl, hr⟩
  · have hcost : Spends s.unmarked.begin.cycles t.cycles := State.costs_act _ _ t hact
    exact .inl hcost
  · exact .inr ⟨rfl, rfl⟩

/-- A tick behind its commands costs what its engine step does, or nothing where the core is or becomes Held or REFUSED
(60_exceptions R440, R460). -/
theorem State.cost_runTick {s t : State} (h : s.runTick = .next t) :
    Spends s.cycles t.cycles ∨
      (t.cycles = s.cycles ∧ (t.plane.execState = .held ∨ t.refused = true)) := by
  obtain ⟨hstop, rfl⟩ | ⟨_, _, hrun⟩ := State.runTick_eq_next.1 h
  · exact .inr ⟨rfl, hstop.symm⟩
  have hstep {g : Debug} (h : (s.setDebug g).stepInTick = .next t) :
      Spends s.cycles t.cycles ∨
        (t.cycles = s.cycles ∧ (t.plane.execState = .held ∨ t.refused = true)) := by
    obtain ⟨u, hu, rfl⟩ := State.stepInTick_eq_next.1 h
    rw [State.afterStep_eq]
    obtain hcost | ⟨hcost, hr⟩ := State.cost_engineStep hu
    · exact .inl hcost
    · exact .inr ⟨hcost, .inr hr⟩
  obtain ⟨_, h⟩ | ⟨_, _, h⟩ | ⟨_, _, _, rfl⟩ | ⟨_, _, _, h⟩ := hrun
  · exact hstep (g := s.plane) h
  · exact hstep h
  · exact .inr ⟨rfl, .inl rfl⟩
  · exact hstep (g := s.plane) h

/-- Settles O11: the debug commands leave CYCLES, and what follows them costs as its engine step does. -/
theorem stepCost : Obligations.StepCost := by
  intro s t h
  have hdispatch : s.dispatch.cycles = s.cycles := by rw [State.dispatch_eq]
  obtain ⟨hlo, hhi⟩ | ⟨hcycles, hstop⟩ := State.cost_runTick h
  · rw [hdispatch] at hlo hhi
    exact ⟨by omega, hhi, fun he => by omega⟩
  · rw [hdispatch] at hcycles
    exact ⟨Nat.le_of_eq hcycles.symm, Nat.le_trans (Nat.le_of_eq hcycles) (Nat.le_add_right _ 23), fun _ => hstop⟩

end Sys2Proof.Machine
end

section
/-! PROOF. The alternate register set: the other instructions neither write nor read it (10_state R23). -/

namespace Sys2Proof.Machine

/-- x' is x, but for the alternate set k in the state it answers. -/
def AltOnly (k : Bank) (x' x : Result) : Prop := x' = andThen x fun t => .next (t.setAlt k)

section
variable {k : Bank}

theorem altOnly_next {u' u : State} (h : u' = u.setAlt k := by rfl) : AltOnly k (.next u') (.next u) := h ▸ rfl

theorem altOnly_done {n : Nat} {u' u : State} (h : u' = u.setAlt k := by rfl) : AltOnly k (done n u') (done n u) := h ▸ rfl

theorem altOnly_refused (e : Refusal) : AltOnly k (.refused e) (.refused e) := rfl

theorem altOnly_ite {c : Prop} [Decidable c] {x' x y' y : Result} (hx : AltOnly k x' x) (hy : AltOnly k y' y) :
    AltOnly k (if c then x' else y') (if c then x else y) := by
  split
  · exact hx
  · exact hy

theorem AltOnly.andThen {x' x : Result} {f' f : State → Result} (hx : AltOnly k x' x)
    (hf : ∀ u, AltOnly k (f' (u.setAlt k)) (f u)) : AltOnly k (andThen x' f') (andThen x f) := by
  rw [hx]
  cases x with
  | next u => exact hf u
  | fault e => rfl
  | refused e => rfl

theorem AltOnly.finish {x' x : Result} (hx : AltOnly k x' x) {n : Nat} : AltOnly k (finish n x') (finish n x) :=
  hx.andThen fun _ => altOnly_done

theorem altOnly_done_emitIf {u' u : State} {on : Bool} {ev : MsgEvent} {n : Nat} (h : u' = u.setAlt k := by rfl) :
    AltOnly k (done n (u'.emitIf on ev)) (done n (u.emitIf on ev)) := by
  subst h
  cases on <;> rfl

theorem altOnly_write8 {u' u : State} {a : Word} {v : Byte} (h : u' = u.setAlt k := by rfl) :
    AltOnly k (u'.write8 a v) (u.write8 a v) := by
  subst h
  refine altOnly_ite (altOnly_refused _) (altOnly_next ?_)
  exact State.wrote_setAlt ..

theorem altOnly_write16 {u' u : State} {a v : Word} (h : u' = u.setAlt k := by rfl) :
    AltOnly k (u'.write16 a v) (u.write16 a v) :=
  (altOnly_write8 h).andThen fun _ => altOnly_write8

theorem altOnly_push16 {u' u : State} {v : Word} (h : u' = u.setAlt k := by rfl) :
    AltOnly k (u'.push16 v) (u.push16 v) := by
  subst h
  exact AltOnly.andThen altOnly_write8 fun _ => altOnly_write8

theorem altOnly_writeBack {u' u : State} {a : Word} {c : Option Reg8} {v : Byte} (h : u' = u.setAlt k := by rfl) :
    AltOnly k (u'.writeBack a c v) (u.writeBack a c v) :=
  (altOnly_write8 h).andThen fun _ => by cases c <;> rfl

theorem altOnly_endIteration {again : Bool} {mask : Byte} {u' u : State} (h : u' = u.setAlt k := by rfl) :
    AltOnly k (endIteration again mask u') (endIteration again mask u) := by
  subst h
  exact altOnly_ite altOnly_done altOnly_done

theorem altOnly_ldBlock {inc : Word} {s : State} : AltOnly k (ldBlock inc (s.setAlt k)) (ldBlock inc s) :=
  AltOnly.andThen altOnly_write8 fun _ => altOnly_next

theorem altOnly_inBlock {inc : Word} {s : State} : AltOnly k (inBlock inc (s.setAlt k)) (inBlock inc s) :=
  AltOnly.andThen altOnly_write8 fun _ => altOnly_next

theorem altOnly_runRow (i : Instr) (s : State) (haf : i ≠ .exAfAf) (hx : i ≠ .exx) :
    AltOnly k (runRow i (s.setAlt k)) (runRow i s) := by
  cases i
  case exAfAf => exact absurd rfl haf
  case exx => exact absurd rfl hx
  case ldAtBcA | ldAtDeA | ldAtNnA | ldAtHlR | ldAtHlN | ldAtIxR | ldAtIxN | ldAtIyR | ldAtIyN => exact AltOnly.finish altOnly_write8
  case ldAtNnHl | ldAtNnDd | ldAtNnIx | ldAtNnIy => exact AltOnly.finish altOnly_write16
  case pushQq | pushIx | pushIy => exact AltOnly.finish altOnly_push16
  case exAtSpHl | exAtSpIx | exAtSpIy => exact AltOnly.andThen altOnly_write16 fun _ => altOnly_done
  case incAtHl | incAtIx | incAtIy | decAtHl | decAtIx | decAtIy | rld | rrd => exact AltOnly.andThen altOnly_write8 fun _ => altOnly_done
  case rlcAtHl | rrcAtHl | rlAtHl | rrAtHl | slaAtHl | sraAtHl | sllAtHl | srlAtHl
      | rlcAtIx | rrcAtIx | rlAtIx | rrAtIx | slaAtIx | sraAtIx | sllAtIx | srlAtIx
      | rlcAtIxR | rrcAtIxR | rlAtIxR | rrAtIxR | slaAtIxR | sraAtIxR | sllAtIxR | srlAtIxR
      | rlcAtIy | rrcAtIy | rlAtIy | rrAtIy | slaAtIy | sraAtIy | sllAtIy | srlAtIy
      | rlcAtIyR | rrcAtIyR | rlAtIyR | rrAtIyR | slaAtIyR | sraAtIyR | sllAtIyR | srlAtIyR
      | resAtHl | setAtHl | resAtIx | setAtIx | resAtIxR | setAtIxR | resAtIy | setAtIy | resAtIyR | setAtIyR =>
    exact AltOnly.andThen altOnly_writeBack fun _ => altOnly_done
  case callNn | rst => exact AltOnly.andThen altOnly_push16 fun _ => altOnly_done
  case callCcNn => exact altOnly_ite (AltOnly.andThen altOnly_push16 fun _ => altOnly_done) altOnly_done
  case ldi | ldd => exact AltOnly.finish altOnly_ldBlock
  case ini | ind => exact AltOnly.finish altOnly_inBlock
  case ldir | lddr => exact AltOnly.andThen altOnly_ldBlock fun _ => altOnly_endIteration
  case inir | indr => exact AltOnly.andThen altOnly_inBlock fun _ => altOnly_endIteration
  case cpir | cpdr | otir | otdr => exact altOnly_endIteration
  case nopEd0 | nopEd2 | nopEd3 | nopEd7 | loneDd | loneFd => exact altOnly_done_emitIf
  case prefixCb | prefixDd | prefixEd | prefixFd | prefixDdCb | prefixFdCb | ignoredDd | ignoredFd => exact altOnly_refused _
  case jrCc | jpCcNn | retCc | djnz => exact altOnly_ite altOnly_done altOnly_done
  case ldDdNn q _ | ldDdAtNn q _ | incSs q | decSs q | popQq q | ldRRIx q _ | ldRRIy q _
      | incIxHalf q | decIxHalf q | ldIxHalfN q _ | incIyHalf q | decIyHalf q | ldIyHalfN q _ =>
    cases q <;> rfl
  all_goals rfl

/-- Behind an ignored DD or FD: the base instruction, then the message. -/
theorem altOnly_ignoredPrefix {base : Instr} {pfx : Byte} {s : State} (haf : base ≠ .exAfAf) (hx : base ≠ .exx) :
    AltOnly k (ignoredPrefix pfx base (s.setAlt k)) (ignoredPrefix pfx base s) :=
  altOnly_ite ((altOnly_runRow base (s.fetch 1 1) haf hx).andThen fun _ => altOnly_done_emitIf) (altOnly_refused _)

theorem altOnly_exec {i : Instr} (s : State) (hw : i.wellFormed = true) (haf : i.core ≠ .exAfAf) (hx : i.core ≠ .exx) :
    AltOnly k (exec i (s.setAlt k)) (exec i s) := by
  have hrow : i ≠ .exAfAf → i ≠ .exx → AltOnly k (runRow i (s.setAlt k)) (runRow i s) := altOnly_runRow i s
  cases i
  case ignoredDd | ignoredFd => exact altOnly_ignoredPrefix haf hx
  case prefixCb | prefixDd | prefixEd | prefixFd | prefixDdCb | prefixFdCb => cases hw
  all_goals exact hrow haf hx

end

/-- Settles O14: with any alternate set the answer is the same but for it; with the one that is there, it is the same answer. -/
theorem onlyExchangesReachTheAlternateSet : Obligations.OnlyExchangesReachTheAlternateSet := by
  intro i s t hw h haf hx
  have hany (k : Bank) : exec i (s.setAlt k) = .next (t.setAlt k) := by
    have hk : AltOnly k (exec i (s.setAlt k)) (exec i s) := altOnly_exec s hw haf hx
    rw [h] at hk
    exact hk
  have hown : exec i s = .next (t.setAlt s.alt) := hany s.alt
  have ht : t = t.setAlt s.alt := Host.Outcome.next.inj (h.symm.trans hown)
  have halt : t.alt = (t.setAlt s.alt).alt := congrArg State.alt ht
  exact ⟨halt, hany⟩

end Sys2Proof.Machine
end
